-- ==== Sys2Proof/Config.lean ====
section
/-! DEFINITION. The fixed sizes and limits of the part, each with the rule that states it. No value of
the spec is left to an implementation, so no constant here is free. -/

namespace Sys2Proof.Config

/-- Bytes in one buffer (R6). -/
abbrev bufferBytes : Nat := 64

/-- The longest payload (R45). -/
abbrev maxPayload : Nat := 240

/-- Replies a port may owe (R156). -/
abbrev replySlots : Nat := 4

/-- Reports that may wait in a port's report queue (R101). -/
abbrev reportPlaces : Nat := 16

/-- Members a group may hold (R107). -/
abbrev maxMembers : Nat := 8

/-- The longest lifetime of a SEND, ms (R45). -/
abbrev maxLifetime : Nat := 60000

/-- The longest ack window, ms (R27). -/
abbrev maxAckWindow : Nat := 10000

/-- The highest pool low mark (R184). -/
abbrev maxLowMark : Nat := 384

/-- The longest dormancy limit, s (R184). -/
abbrev maxDormancy : Nat := 3600

/-- The pool low mark at power-on (1.10, 11.1). -/
abbrev powerOnLowMark : Nat := 32

/-- The fewest good buffers with which a test ends in RUNNING (R172). -/
abbrev enoughBuffers : Nat := 96

/-- The part code of HELLO (R126). -/
abbrev partCode : BitVec 16 := 0x0632#16

/-- The revision of HELLO (R126). -/
abbrev revision : BitVec 8 := 1#8

/-- The first byte of every frame (8.2). -/
abbrev sync : BitVec 8 := 0xC9#8

/-- The value a 16-bit counter keeps once there (R137). -/
abbrev counterTop : BitVec 16 := 0xFFFF#16

end Sys2Proof.Config
end

