-- ==== Sys2Proof/Word.lean ====
section
/-! DEFINITION. The words of the 6P32's frames and the numbers that name its ports, mailboxes, groups,
descriptors, entries and buffers (00_scope.md, R1, R4, R6, R21, R107, R119, R149). -/

namespace Sys2Proof

/-- A byte on a line (R140). -/
abbrev Byte := BitVec 8

/-- A two-byte field of a frame (8.3). -/
abbrev Half := BitVec 16

/-- One of the six ports (00_scope.md). -/
abbrev PortId := Fin 6

/-- One of the 32 mailboxes, ids 0 to 31 (R21). -/
abbrev MailboxId := Fin 32

/-- One of the eight group records; record `g` is the group of id `32 + g` (R107). -/
abbrev GroupId := Fin 8

/-- One of the 128 message descriptors (R1). -/
abbrev DescId := Fin 128

/-- One of the 256 queue entries (R4). -/
abbrev EntryId := Fin 256

/-- One of the 384 buffers (R6). -/
abbrev BufferId := Fin 384

/-- A set of the seven events, bit 0 LEVEL to bit 6 PORT_DOWN (R149, R162). -/
abbrev EventSet := BitVec 7

/-- The high byte of a two-byte field. -/
abbrev hiByte (h : Half) : Byte := h.extractLsb' 8 8

/-- The low byte of a two-byte field. -/
abbrev loByte (h : Half) : Byte := h.extractLsb' 0 8

/-- A two-byte field from its bytes, high byte first (8.3). -/
abbrev half (hi lo : Byte) : Half := hi ++ lo

end Sys2Proof
end

