-- ==== Sys2Proof/Machine/Wire.lean ====
section
/-! DEFINITION. The wire form that every frame of either direction has: SYNC, LEN, KIND, SEQ, body and
CHECK (8.2, R142), the CHECK itself (R143), and numbers written high byte first (8.3, R149). -/

namespace Sys2Proof.Machine

/-- One bit of the CHECK register's shift, generator x^16 + x^12 + x^5 + 1 (R143). -/
def crcBit (c : Half) : Half :=
  if c.msb then (c <<< 1) ^^^ 0x1021#16 else c <<< 1

/-- A byte fed into the CHECK register, most significant bit first (R143). -/
def crcByte (c : Half) (b : Byte) : Half :=
  let c := c ^^^ (b ++ 0#8)
  crcBit (crcBit (crcBit (crcBit (crcBit (crcBit (crcBit (crcBit c)))))))

/-- The CHECK over LEN, KIND, SEQ and body; the register starts at 0xFFFF and is not inverted (R143). -/
def crc (bytes : List Byte) : Half :=
  bytes.foldl crcByte 0xFFFF#16

/-- A number as one byte. -/
def byteOf (n : Nat) : Byte := BitVec.ofNat 8 n

/-- Two bytes, high byte first (8.3). -/
def bytesOfHalf (h : Half) : List Byte := [hiByte h, loByte h]

/-- A number as two bytes, high byte first (8.3). -/
def halfOf (n : Nat) : List Byte := bytesOfHalf (BitVec.ofNat 16 n)

/-- Four bytes, high byte first (8.3). -/
def bytesOfWord (w : BitVec 32) : List Byte :=
  bytesOfHalf (w.extractLsb' 16 16) ++ bytesOfHalf (w.extractLsb' 0 16)

/-- A yes/no field: 0 no, 1 yes (R149). -/
def byteOfBool (b : Bool) : Byte := if b then 1#8 else 0#8

/-- LEN, KIND, SEQ and body: the bytes that CHECK covers; LEN is two more than the body length (R142). -/
def checkedBytes (kind seq : Byte) (body : List Byte) : List Byte :=
  byteOf (body.length + 2) :: kind :: seq :: body

/-- A whole frame on the line (8.2, R142). -/
def wireFrame (kind seq : Byte) (body : List Byte) : List Byte :=
  Config.sync :: (checkedBytes kind seq body ++ bytesOfHalf (crc (checkedBytes kind seq body)))

end Sys2Proof.Machine
end

