-- ==== Sys2Proof/Syntax.lean ====
section
/-! DEFINITION. The commands of the block: one constructor for each row of spec/opcode_table.json. A
field of a host frame stands as the raw byte or 16-bit word it was sent as (R150, R151), so that a value
outside its range can be given and refused. -/

namespace Sys2Proof

/-- A step of the 6P32. The first argument of a command or answer is the port whose link received the
frame; `seq` is the frame's SEQ (R148). -/
inductive Instr where
  /-- ATTACH (R127, R129): delivery window and event enables. -/
  | attach (p : PortId) (seq window enables : Byte)
  /-- DETACH (R131). -/
  | detach (p : PortId) (seq : Byte)
  /-- OPEN (R27, R28): mailbox id or 255, depth limit, ack window, retry limit, watermark. -/
  | openMailbox (p : PortId) (seq id depth : Byte) (ackWindow : Half) (retry watermark : Byte)
  /-- CLOSE (R29 to R31). -/
  | close (p : PortId) (seq id : Byte)
  /-- HOLD (R37). -/
  | hold (p : PortId) (seq id : Byte)
  /-- RESUME (R38). -/
  | resume (p : PortId) (seq id : Byte)
  /-- RECLAIM (R39). -/
  | reclaim (p : PortId) (seq id : Byte)
  /-- QUERY_MAILBOX (R40). -/
  | queryMailbox (p : PortId) (seq id : Byte)
  /-- SEND (R45, R151): destination, class, report wanted, tag, lifetime, declared length, payload. -/
  | send (p : PortId) (seq dest cls report : Byte) (tag lifetime : Half) (declared : Byte)
      (payload : List Byte)
  /-- CANCEL (R58). -/
  | cancel (p : PortId) (seq : Byte) (tag : Half)
  /-- SET_EVENTS (R166). -/
  | setEvents (p : PortId) (seq enables : Byte)
  /-- READ_EVENTS (R167). -/
  | readEvents (p : PortId) (seq : Byte)
  /-- QUERY_POOL (R187). -/
  | queryPool (p : PortId) (seq : Byte)
  /-- QUERY_PORT (R138): the port number asked about. -/
  | queryPort (p : PortId) (seq which : Byte)
  /-- CONFIGURE (R184): pool low mark, dormancy limit in seconds. -/
  | configure (p : PortId) (seq : Byte) (lowMark dormancy : Half)
  /-- GROUP_DEFINE (R111). -/
  | groupDefine (p : PortId) (seq gid policy : Byte)
  /-- GROUP_ADD (R112, R113). -/
  | groupAdd (p : PortId) (seq gid id : Byte)
  /-- GROUP_REMOVE (R114). -/
  | groupRemove (p : PortId) (seq gid id : Byte)
  /-- GROUP_DELETE (R115). -/
  | groupDelete (p : PortId) (seq gid : Byte)
  /-- FORCE_CLOSE (R35). -/
  | forceClose (p : PortId) (seq id : Byte)
  /-- CLEAR (R182). -/
  | clear (p : PortId) (seq : Byte)
  /-- RETEST (R178). -/
  | retest (p : PortId) (seq : Byte)
  /-- ACCEPT (R77); the SEQ of an answer is not read (R148). -/
  | accept (p : PortId) (offer : Byte)
  /-- DECLINE (R78). -/
  | decline (p : PortId) (offer requeue : Byte)
  /-- A selection by the port's delivery scheduler (R66, R69). -/
  | selection (p : PortId)
  /-- The ack deadline of the port's AWAITING offer of this id is reached (R80). -/
  | ackDeadlineExpiry (p : PortId) (offer : Byte)
  /-- The lifetime deadline of a LIVE descriptor is reached (R93). -/
  | lifetimeExpiry (d : DescId)
  /-- The dormancy deadline of a DORMANT mailbox is reached (R43). -/
  | dormancyExpiry (m : MailboxId)
  /-- The receive line has been low for 1 ms (R122, R123). -/
  | breakStart (p : PortId)
  /-- The line returns high after a break start (R122, R125). -/
  | breakEnd (p : PortId)
  /-- A received frame is discarded for its LEN or its CHECK (R145). -/
  | frameDiscard (p : PortId)
  /-- More than 2 ms have passed inside a frame (R146). -/
  | gapExpiry (p : PortId)
  /-- A good frame of unknown KIND, or of a body length wrong for its KIND (R147). -/
  | malformed (p : PortId) (kind seq : Byte)
  /-- The outbound arbiter decides while the transmitter is idle (R159). -/
  | arbiterBeginFrame (p : PortId)
  /-- The last byte of the frame on the line has been sent (R160). -/
  | frameLastByteSent (p : PortId)
  /-- The 3 ms idle after a stopped frame ends (R124). -/
  | stoppedFrameIdleEnd (p : PortId)
  /-- Release of RESETn with the strap levels PSEL and RATE (R174, R188). -/
  | powerOn (psel : BitVec 3) (rate : BitVec 2)
  /-- RESETn goes low (R175). -/
  | resetAsserted
  /-- A buffer test ends; `failed` names the buffers it judged failed (R176, R177). -/
  | testEnd (failed : List BufferId)
  /-- A byte is taken at its stop bit (R141, R144). -/
  | byteTaken (p : PortId) (b : Byte)
  deriving DecidableEq, Repr

end Sys2Proof
end

