-- ==== Sys2Proof/Decode.lean ====
section
/-! DEFINITION. The host's frames read and written (R142, R147, R150, R151): `decodeFrame` turns the
KIND, SEQ and body of a good frame into the row it is, total on any bytes; `encodeFrame` gives the KIND,
SEQ and body of a host frame. `decodeTableWord` is the host's question about table words: the table gives
no row any bits. -/

namespace Sys2Proof

/-- ATTACH (R142). -/
abbrev Kind.attach : Byte := 0x10#8
/-- DETACH (R142). -/
abbrev Kind.detach : Byte := 0x11#8
/-- OPEN (R142). -/
abbrev Kind.openMailbox : Byte := 0x12#8
/-- CLOSE (R142). -/
abbrev Kind.close : Byte := 0x13#8
/-- HOLD (R142). -/
abbrev Kind.hold : Byte := 0x14#8
/-- RESUME (R142). -/
abbrev Kind.resume : Byte := 0x15#8
/-- RECLAIM (R142). -/
abbrev Kind.reclaim : Byte := 0x16#8
/-- QUERY_MAILBOX (R142). -/
abbrev Kind.queryMailbox : Byte := 0x17#8
/-- SEND (R142). -/
abbrev Kind.send : Byte := 0x18#8
/-- CANCEL (R142). -/
abbrev Kind.cancel : Byte := 0x19#8
/-- SET_EVENTS (R142). -/
abbrev Kind.setEvents : Byte := 0x1A#8
/-- READ_EVENTS (R142). -/
abbrev Kind.readEvents : Byte := 0x1B#8
/-- QUERY_POOL (R142). -/
abbrev Kind.queryPool : Byte := 0x1C#8
/-- QUERY_PORT (R142). -/
abbrev Kind.queryPort : Byte := 0x1D#8
/-- CONFIGURE (R142). -/
abbrev Kind.configure : Byte := 0x1E#8
/-- GROUP_DEFINE (R142). -/
abbrev Kind.groupDefine : Byte := 0x1F#8
/-- GROUP_ADD (R142). -/
abbrev Kind.groupAdd : Byte := 0x20#8
/-- GROUP_REMOVE (R142). -/
abbrev Kind.groupRemove : Byte := 0x21#8
/-- GROUP_DELETE (R142). -/
abbrev Kind.groupDelete : Byte := 0x22#8
/-- FORCE_CLOSE (R142). -/
abbrev Kind.forceClose : Byte := 0x23#8
/-- CLEAR (R142). -/
abbrev Kind.clear : Byte := 0x24#8
/-- RETEST (R142). -/
abbrev Kind.retest : Byte := 0x25#8
/-- ACCEPT (R142). -/
abbrev Kind.accept : Byte := 0x30#8
/-- DECLINE (R142). -/
abbrev Kind.decline : Byte := 0x31#8
/-- HELLO (R142). -/
abbrev Kind.hello : Byte := 0x80#8
/-- REPLY (R142). -/
abbrev Kind.reply : Byte := 0x81#8
/-- OFFER (R142). -/
abbrev Kind.offer : Byte := 0x82#8
/-- REPORT (R142). -/
abbrev Kind.report : Byte := 0x83#8
/-- EVENT (R142). -/
abbrev Kind.event : Byte := 0x84#8

/-- The row of a good frame (R147, R150, R151). A frame whose KIND names no host frame, or whose body has
a length wrong for its KIND, is MALFORMED. -/
def decodeFrame (p : PortId) (kind seq : Byte) (body : List Byte) : Instr :=
  if kind = Kind.send then
    match body with
    | dest :: cls :: rep :: t1 :: t0 :: l1 :: l0 :: len :: payload =>
      if payload.length ≤ Config.maxPayload then
        .send p seq dest cls rep (half t1 t0) (half l1 l0) len payload
      else .malformed p kind seq
    | _ => .malformed p kind seq
  else
    match body with
    | [] =>
      if kind = Kind.detach then .detach p seq
      else if kind = Kind.readEvents then .readEvents p seq
      else if kind = Kind.queryPool then .queryPool p seq
      else if kind = Kind.clear then .clear p seq
      else if kind = Kind.retest then .retest p seq
      else .malformed p kind seq
    | [a] =>
      if kind = Kind.close then .close p seq a
      else if kind = Kind.hold then .hold p seq a
      else if kind = Kind.resume then .resume p seq a
      else if kind = Kind.reclaim then .reclaim p seq a
      else if kind = Kind.queryMailbox then .queryMailbox p seq a
      else if kind = Kind.forceClose then .forceClose p seq a
      else if kind = Kind.setEvents then .setEvents p seq a
      else if kind = Kind.queryPort then .queryPort p seq a
      else if kind = Kind.groupDelete then .groupDelete p seq a
      else if kind = Kind.accept then .accept p a
      else .malformed p kind seq
    | [a, b] =>
      if kind = Kind.attach then .attach p seq a b
      else if kind = Kind.cancel then .cancel p seq (half a b)
      else if kind = Kind.groupDefine then .groupDefine p seq a b
      else if kind = Kind.groupAdd then .groupAdd p seq a b
      else if kind = Kind.groupRemove then .groupRemove p seq a b
      else if kind = Kind.decline then .decline p a b
      else .malformed p kind seq
    | [a, b, c, d] =>
      if kind = Kind.configure then .configure p seq (half a b) (half c d)
      else .malformed p kind seq
    | [a, b, c, d, e, f] =>
      if kind = Kind.openMailbox then .openMailbox p seq a b (half c d) e f
      else .malformed p kind seq
    | _ => .malformed p kind seq

/-- A host frame before it is put on the line. -/
structure HostFrame where
  /-- The port whose receive line carries it. -/
  port : PortId
  /-- Its KIND byte. -/
  kind : Byte
  /-- Its SEQ byte. -/
  seq : Byte
  /-- Its body. -/
  body : List Byte
  deriving DecidableEq, Repr

/-- The frame a host sends for a command or answer (R150, R151); a row that is no host frame, and
MALFORMED, has none. The SEQ of an answer is not read (R148) and is written 0. -/
def encodeFrame (i : Instr) : Option HostFrame :=
  match i with
  | .attach p seq w e => some ⟨p, Kind.attach, seq, [w, e]⟩
  | .detach p seq => some ⟨p, Kind.detach, seq, []⟩
  | .openMailbox p seq id depth win retry mark =>
      some ⟨p, Kind.openMailbox, seq, [id, depth, hiByte win, loByte win, retry, mark]⟩
  | .close p seq id => some ⟨p, Kind.close, seq, [id]⟩
  | .hold p seq id => some ⟨p, Kind.hold, seq, [id]⟩
  | .resume p seq id => some ⟨p, Kind.resume, seq, [id]⟩
  | .reclaim p seq id => some ⟨p, Kind.reclaim, seq, [id]⟩
  | .queryMailbox p seq id => some ⟨p, Kind.queryMailbox, seq, [id]⟩
  | .send p seq dest cls rep tag life len payload =>
      some ⟨p, Kind.send, seq,
        dest :: cls :: rep :: hiByte tag :: loByte tag :: hiByte life :: loByte life :: len ::
          payload⟩
  | .cancel p seq tag => some ⟨p, Kind.cancel, seq, [hiByte tag, loByte tag]⟩
  | .setEvents p seq e => some ⟨p, Kind.setEvents, seq, [e]⟩
  | .readEvents p seq => some ⟨p, Kind.readEvents, seq, []⟩
  | .queryPool p seq => some ⟨p, Kind.queryPool, seq, []⟩
  | .queryPort p seq w => some ⟨p, Kind.queryPort, seq, [w]⟩
  | .configure p seq m d =>
      some ⟨p, Kind.configure, seq, [hiByte m, loByte m, hiByte d, loByte d]⟩
  | .groupDefine p seq g pol => some ⟨p, Kind.groupDefine, seq, [g, pol]⟩
  | .groupAdd p seq g m => some ⟨p, Kind.groupAdd, seq, [g, m]⟩
  | .groupRemove p seq g m => some ⟨p, Kind.groupRemove, seq, [g, m]⟩
  | .groupDelete p seq g => some ⟨p, Kind.groupDelete, seq, [g]⟩
  | .forceClose p seq id => some ⟨p, Kind.forceClose, seq, [id]⟩
  | .clear p seq => some ⟨p, Kind.clear, seq, []⟩
  | .retest p seq => some ⟨p, Kind.retest, seq, []⟩
  | .accept p offer => some ⟨p, Kind.accept, 0#8, [offer]⟩
  | .decline p offer requeue => some ⟨p, Kind.decline, 0#8, [offer, requeue]⟩
  | .selection _ | .ackDeadlineExpiry _ _ | .lifetimeExpiry _ | .dormancyExpiry _ | .breakStart _
  | .breakEnd _ | .frameDiscard _ | .gapExpiry _ | .malformed _ _ _ | .arbiterBeginFrame _
  | .frameLastByteSent _ | .stoppedFrameIdleEnd _ | .powerOn _ _ | .resetAsserted | .testEnd _
  | .byteTaken _ _ => none

/-- The command that a word spells by the table's bits: spec/opcode_table.json gives no row any bits, so
no word spells one. -/
def decodeTableWord (_nbits _w : Nat) : Option Instr := none

end Sys2Proof
end

