-- ==== Sys2Proof/Machine/Memory.lean ====
section
/-! DEFINITION. The bytes of the buffer pool (R6, R7): 384 buffers of 64 bytes, byte `o` of buffer `b` at
address `64·b + o`. The memory is a list of cells in one canonical form: addresses strictly rising, none
beyond the pool, and no cell that holds what an unlisted address reads as. DESIGN CHOICE (log 10, unsafe):
an unlisted address reads 0; the contents of a free buffer are not observable (R6). -/

namespace Sys2Proof.Machine

/-- The listed bytes of the pool. -/
abbrev Memory := List Host.Cell

/-- What an unlisted address reads as (log 10). -/
def Memory.blank : BitVec 8 := 0#8

/-- The number of byte addresses: 384 buffers of 64 bytes. -/
def Memory.extent : Nat := 384 * Config.bufferBytes

/-- The byte at an address. -/
def Memory.read (m : Memory) (a : Nat) : BitVec 8 :=
  match m with
  | [] => Memory.blank
  | (b, v) :: rest => if a = b then v else Memory.read rest a

/-- The memory with the byte at an address replaced, in canonical form. -/
def Memory.write (m : Memory) (a : Nat) (v : BitVec 8) : Memory :=
  match m with
  | [] => if v = Memory.blank then [] else [(a, v)]
  | (b, w) :: rest =>
    if a < b then (if v = Memory.blank then (b, w) :: rest else (a, v) :: (b, w) :: rest)
    else if a = b then (if v = Memory.blank then rest else (a, v) :: rest)
    else (b, w) :: Memory.write rest a v

/-- The cells from address `lo` on are in canonical form: rising, inside the pool, none blank. -/
def Memory.wfFrom (lo : Nat) (m : Memory) : Bool :=
  match m with
  | [] => true
  | (a, v) :: rest =>
    decide (lo ≤ a ∧ a < Memory.extent ∧ v ≠ Memory.blank) && Memory.wfFrom (a + 1) rest

/-- The canonical form holds. -/
def Memory.wf (m : Memory) : Bool := Memory.wfFrom 0 m

/-- The address of byte `i` of a payload held in the buffers `bufs` (R7). A byte beyond the list has no
buffer; it is given the pool's first one, which no message of the part ever asks for. -/
def payloadAddress (bufs : List (Fin 384)) (i : Nat) : Nat :=
  (bufs.getD (i / Config.bufferBytes) 0).val * Config.bufferBytes + i % Config.bufferBytes

/-- The payload bytes from number `i` on written into the buffers `bufs` (R7). -/
def Memory.writePayload (m : Memory) (bufs : List (Fin 384)) (i : Nat) (payload : List (BitVec 8)) :
    Memory :=
  match payload with
  | [] => m
  | b :: rest => Memory.writePayload (m.write (payloadAddress bufs i) b) bufs (i + 1) rest

/-- The first `len` payload bytes read from the buffers `bufs` (R7). -/
def Memory.readPayload (m : Memory) (bufs : List (Fin 384)) (len : Nat) : List (BitVec 8) :=
  (List.range len).map fun i => m.read (payloadAddress bufs i)

/-- ceil(L/64), the buffers of a message of L bytes (R7). -/
def buffersFor (len : Nat) : Nat := (len + Config.bufferBytes - 1) / Config.bufferBytes

end Sys2Proof.Machine
end

