-- ==== Sys2Proof/Machine/Table.lean ====
section
/-! DEFINITION. A table of a fixed number of like records (descriptors, entries, buffers, mailboxes,
groups, ports), read and written by record number. Plain data: a list that carries its length. -/

namespace Sys2Proof.Machine

/-- `n` records in order. -/
structure Table (α : Type) (n : Nat) where
  /-- The records, record 0 first. -/
  items : List α
  /-- There are `n` of them. -/
  size : items.length = n
  deriving DecidableEq, Repr

variable {α : Type} {n : Nat}

/-- Every record the same. -/
def Table.replicate (n : Nat) (a : α) : Table α n := ⟨List.replicate n a, by simp⟩

/-- Record `i` is `f i`. -/
def Table.ofFn (f : Fin n → α) : Table α n := ⟨(List.finRange n).map f, by simp⟩

/-- Record `i`. -/
def Table.get (t : Table α n) (i : Fin n) : α := t.items[i.val]'(by rw [t.size]; exact i.isLt)

/-- Record `i` replaced. -/
def Table.set (t : Table α n) (i : Fin n) (a : α) : Table α n :=
  ⟨t.items.set i.val a, by simp [t.size]⟩

/-- Record `i` changed by `f`. -/
def Table.modify (t : Table α n) (i : Fin n) (f : α → α) : Table α n := t.set i (f (t.get i))

/-- Every record changed by `f`. -/
def Table.map (t : Table α n) (f : α → α) : Table α n := ⟨t.items.map f, by simp [t.size]⟩

/-- How many records satisfy `p`. -/
def Table.count (t : Table α n) (p : α → Bool) : Nat := t.items.countP p

/-- The numbers of the records that satisfy `p`, in ascending order. -/
def Table.indices (t : Table α n) (p : α → Bool) : List (Fin n) :=
  (List.finRange n).filter fun i => p (t.get i)

/-- The lowest number of a record that satisfies `p`. -/
def Table.first (t : Table α n) (p : α → Bool) : Option (Fin n) :=
  (List.finRange n).find? fun i => p (t.get i)

end Sys2Proof.Machine
end

