-- ==== Sys2Proof/Machine/State.lean ====
section
/-! DEFINITION. The state of the 6P32: every record the spec gives it, as plain data, the queue of the
commands that wait, and the state right after reset (00_scope.md block diagram; R1 to R9, R21, R64, R101,
R107, R119, R144, R156, R162, R172). -/

namespace Sys2Proof.Machine

/-- Why the block could stop with a fault: it never does. The part answers, drops or ignores what it
cannot do, and FAULT is an exchange mode. Safe: no claim rests on a stop. -/
inductive Fault where
  deriving DecidableEq, Repr

/-- Why the block could have no meaning for a command. -/
inductive Refusal where
  /-- Raised by `exec` alone, for a row that has no meaning yet; no row is left so. Safe. -/
  | notModelled (mnemonic : String)
  deriving DecidableEq, Repr

/-! ### The message store (chapter 1) -/

/-- The priority of a message (R2): 0 BULK to 3 URGENT. -/
inductive MessageClass where
  | bulk | normal | high | urgent
  deriving DecidableEq, Repr

/-- The six outcomes of an entry, in the order of R90. -/
inductive EntryOutcome where
  | delivered | declined | expired | exhausted | cancelled | purged
  deriving DecidableEq, Repr

/-- A message's count of outcomes (R91). -/
structure Tally where
  delivered : Nat
  declined : Nat
  expired : Nat
  exhausted : Nat
  cancelled : Nat
  purged : Nat
  deriving DecidableEq, Repr

/-- A LIVE descriptor (R2). A FREE descriptor holds no message and is `none` in the table. -/
structure Descriptor where
  senderPort : PortId
  senderEpoch : BitVec 16
  tag : BitVec 16
  cls : MessageClass
  length : Nat
  /-- The buffer list, in payload order (R7). -/
  buffers : List BufferId
  /-- Arrival sequence (R9). -/
  sequence : BitVec 32
  /-- Lifetime deadline, a time base value, or absent (R92). -/
  deadline : Option Nat
  reportWanted : Bool
  cancelRequested : Bool
  expired : Bool
  /-- Reference count (R12). -/
  refCount : Nat
  targets : Nat
  skipped : Nat
  tally : Tally
  deriving DecidableEq, Repr

/-- The phase of an OFFERED entry; the ack deadline is present in AWAITING alone (R4, R72). -/
inductive Phase where
  | sending
  | awaiting (deadline : Nat)
  deriving DecidableEq, Repr

/-- What an OFFERED entry holds beyond a QUEUED one (R4). -/
structure Offer where
  id : Byte
  phase : Phase
  deriving DecidableEq, Repr

/-- A non-FREE entry (R4): QUEUED while `offer` is absent, OFFERED while it is present. A FREE entry is
`none` in the table. -/
structure Entry where
  descriptor : DescId
  mailbox : MailboxId
  attempts : Nat
  offer : Option Offer
  deriving DecidableEq, Repr

/-- The set a buffer is in (R6). -/
inductive BufferSet where
  | free | inUse | retired
  deriving DecidableEq, Repr

/-! ### The mailbox and group tables (chapters 2 and 6) -/

/-- The states of a mailbox (R21). -/
inductive MailboxState where
  | free | opened | closing | dormant
  deriving DecidableEq, Repr

/-- A mailbox record (R21). -/
structure Mailbox where
  state : MailboxState
  owner : PortId
  held : Bool
  depth : Nat
  /-- Ack window, ms. -/
  ackWindow : Nat
  retryLimit : Nat
  watermark : Nat
  /-- Level arming (R26). -/
  armed : Bool
  /-- The queue, first place first (R23). -/
  queue : List EntryId
  /-- Dormancy deadline, a time base value, or absent (R41). -/
  dormancyDeadline : Option Nat
  /-- Deferred close reply: the port it is owed to and the command's SEQ (R30). -/
  closeReply : Option (PortId × Byte)
  /-- Close count (R32). -/
  closeCount : Nat
  deriving DecidableEq, Repr

/-- A FREE mailbox: an empty queue, no deadline and no reply owed. Its other fields have no meaning (R21)
and stand at 0 and no (log 15). -/
def Mailbox.blank : Mailbox :=
  { state := .free, owner := 0, held := false, depth := 0, ackWindow := 0, retryLimit := 0,
    watermark := 0, armed := false, queue := [], dormancyDeadline := none, closeReply := none,
    closeCount := 0 }

/-- The policies of a group (R107). -/
inductive Policy where
  | strict | lenient
  deriving DecidableEq, Repr

/-- A group record (R107): UNDEFINED while `policy` is absent. -/
structure Group where
  policy : Option Policy
  /-- The member list, in list order (R108). -/
  members : List MailboxId
  deriving DecidableEq, Repr

/-- An UNDEFINED group (R107). -/
def Group.undefined : Group := { policy := none, members := [] }

/-! ### Frames and replies (chapter 8) -/

/-- The exchange modes (R172). -/
inductive Mode where
  | testing | running | fault
  deriving DecidableEq, Repr

/-- The session states (R119). -/
inductive Session where
  | down | announced | up
  deriving DecidableEq, Repr

/-- The status codes of a REPLY, 0 to 19 in this order (8.7). -/
inductive Status where
  | ok | malformed | range | notAttached | notPrincipal | notOwner | noSuch | wrongState | closed
  | full | noRoute | noMailbox | noDescriptor | noEntry | noBuffer | dupTag | noTag | partialCancel
  | testing | faulted
  deriving DecidableEq, Repr

/-- The results of QUERY_MAILBOX (R40). -/
structure MailboxView where
  id : MailboxId
  state : MailboxState
  owner : PortId
  held : Bool
  depth : Nat
  ackWindow : Nat
  retryLimit : Nat
  watermark : Nat
  armed : Bool
  length : Nat
  offered : Nat
  dormancyRemaining : Nat
  closePending : Bool
  deriving DecidableEq, Repr

/-- The results of QUERY_POOL (R187). -/
structure PoolView where
  mode : Mode
  goodCount : Nat
  freeDescriptors : Nat
  freeEntries : Nat
  freeBuffers : Nat
  retiredBuffers : Nat
  lowMark : Nat
  armed : Bool
  dormancyLimit : Nat
  deriving DecidableEq, Repr

/-- The results of QUERY_PORT (R138). -/
structure PortView where
  port : PortId
  session : Session
  epoch : BitVec 16
  principal : Bool
  window : Nat
  inFlight : Nat
  owned : Nat
  dormant : Nat
  badFrames : BitVec 16
  droppedCommands : BitVec 16
  lostReports : BitVec 16
  strayAnswers : BitVec 16
  deriving DecidableEq, Repr

/-- The results of a REPLY (R152). -/
inductive Results where
  | none
  | attached (epoch : BitVec 16) (port : PortId) (principal : Bool)
  | detached (epoch : BitVec 16)
  | openedMailbox (m : MailboxId) (depth ackWindow retryLimit watermark : Nat)
  | closedMailbox (m : MailboxId) (count : Nat)
  | queueLength (m : MailboxId) (length : Nat)
  | reclaimed (m : MailboxId) (length : Nat) (held : Bool)
  | mailbox (v : MailboxView)
  | sent (sequence : BitVec 32) (targets skipped : Nat)
  | cancelled (sequence : BitVec 32) (removed : Nat)
  | partlyCancelled (sequence : BitVec 32) (removed inFlight : Nat)
  | events (enables pending : EventSet)
  | pending (flags : EventSet)
  | pool (v : PoolView)
  | port (v : PortView)
  | configured (lowMark dormancyLimit : Nat)
  | group (g : GroupId) (policy : Option Policy) (members : List MailboxId)
  | retested (goodCount : Nat)
  deriving DecidableEq, Repr

/-- What a deferred reply waits for (R158): the close of a mailbox, or the end of a test. -/
inductive Awaited where
  | close (m : MailboxId)
  | retest
  deriving DecidableEq, Repr

/-- The state of an owed reply (R156). -/
inductive ReplyState where
  | deferred (a : Awaited)
  | ready (status : Status) (results : Results)
  | sending
  deriving DecidableEq, Repr

/-- An owed reply in its slot: the command's KIND and SEQ, and the state (R156). -/
structure Reply where
  kind : Byte
  seq : Byte
  state : ReplyState
  deriving DecidableEq, Repr

/-- The contents of an OFFER, fixed at selection (R69). -/
structure OfferFrame where
  id : Byte
  mailbox : MailboxId
  senderPort : PortId
  cls : MessageClass
  attempt : Nat
  tag : BitVec 16
  sequence : BitVec 32
  payload : List Byte
  deriving DecidableEq, Repr

/-- The contents of a REPORT, fixed at completion (R99). -/
structure Report where
  tag : BitVec 16
  sequence : BitVec 32
  summary : EntryOutcome
  targets : Nat
  skipped : Nat
  tally : Tally
  deriving DecidableEq, Repr

/-- The contents of a HELLO that are not fixed, read when its frame is begun (R126). -/
structure HelloFrame where
  port : PortId
  principal : Bool
  mode : Mode
  goodCount : Nat
  rate : BitVec 2
  deriving DecidableEq, Repr

/-- A frame the part sends (R142). -/
inductive Frame where
  | hello (h : HelloFrame)
  | reply (kind seq : Byte) (status : Status) (results : Results)
  | offer (o : OfferFrame)
  | report (r : Report)
  | event (flags : EventSet)
  deriving DecidableEq, Repr

/-- The transmitter of a port (R159, R160): idle, a frame on the line, or the 3 ms idle after a stopped
frame (R124). -/
inductive Transmitter where
  | idle
  | sending (f : Frame)
  | stopped
  deriving DecidableEq, Repr

/-- The receiver of a port (R144). `stored` holds the bytes from LEN on, in the order taken; `toCome` is
the count of bytes still to come; `first` is the first CHECK byte once taken. -/
inductive Receiver where
  | hunt
  | length
  | body (toCome : Nat) (stored : List Byte)
  | check (stored : List Byte) (first : Option Byte)
  deriving DecidableEq, Repr

/-- The receiver of a port's line, below the byte (R141): the line is idle and a falling edge begins a
character; a character is under way and `bits` are its data bits so far, the first sampled first; or a stop
bit was read low, and no start bit is taken until the line has been high for a bit time. -/
inductive LineReceiver where
  | idle
  | character (bits : List Bool)
  | holdOff
  deriving DecidableEq, Repr

/-- A port's TXD below the frame (R140, R160): how many characters of the frame on the line were begun, and
the bits still to come of the character under way, the next one first. -/
structure LineTransmitter where
  begun : Nat
  rest : List Bool
  deriving DecidableEq, Repr

/-- TXD with no character begun. -/
abbrev LineTransmitter.idle : LineTransmitter := { begun := 0, rest := [] }

/-- The prepared offer (R64, R71): its entry and the contents of its frame. -/
structure Prepared where
  entry : EntryId
  frame : OfferFrame
  deriving DecidableEq, Repr

/-- The record of one port (R119) with its link's receiver and transmitter and what its two lines hold. -/
structure Port where
  session : Session
  lineInBreak : Bool
  helloPending : Bool
  epoch : BitVec 16
  principal : Bool
  /-- Delivery window, 1 to 4, or no value (R65). -/
  window : Option Nat
  /-- The OFFERED entries, oldest offer first (R64). -/
  inFlight : List EntryId
  nextOfferId : Byte
  prepared : Option Prepared
  /-- The occupied reply slots. READY replies stand in the order in which each became READY (R156). -/
  replies : List Reply
  /-- The report queue, head first (R101). -/
  reports : List Report
  flags : EventSet
  enables : EventSet
  noticeOutstanding : Bool
  /-- An EVENT notice waits at the arbiter (R164, R165). -/
  noticeQueued : Bool
  badFrames : BitVec 16
  droppedCommands : BitVec 16
  lostReports : BitVec 16
  strayAnswers : BitVec 16
  receiver : Receiver
  line : LineReceiver
  tx : Transmitter
  txd : LineTransmitter
  deriving DecidableEq, Repr

/-- A port record at power-on (R119, R144), its lines idle (R140, R141); the principal flag comes from the
straps (R120). -/
def Port.powerOn (principal : Bool) : Port :=
  { session := .down, lineInBreak := false, helloPending := false, epoch := 0#16,
    principal := principal, window := none, inFlight := [], nextOfferId := 0#8, prepared := none,
    replies := [], reports := [], flags := 0#7, enables := 0#7, noticeOutstanding := false,
    noticeQueued := false, badFrames := 0#16, droppedCommands := 0#16, lostReports := 0#16,
    strayAnswers := 0#16, receiver := .hunt, line := .idle, tx := .idle,
    txd := .idle }

/-- The state of the part and the commands that wait for it. -/
structure State where
  /-- The 1 ms time base (R73). -/
  now : Nat
  /-- RESETn is held low (R175). -/
  inReset : Bool
  mode : Mode
  goodCount : Nat
  /-- The start-up interval: no test has ended since power-on (R125). -/
  startUp : Bool
  /-- Rate code, from the RATE straps (R188). -/
  rate : BitVec 2
  lowMark : Nat
  /-- Dormancy limit, s. -/
  dormancyLimit : Nat
  /-- Pool-low arming (R19). -/
  poolArmed : Bool
  /-- Arrival counter (R9). -/
  arrival : BitVec 32
  descriptors : Table (Option Descriptor) 128
  entries : Table (Option Entry) 256
  buffers : Table BufferSet 384
  /-- The bytes of the buffers (R6). -/
  mem : Memory
  mailboxes : Table Mailbox 32
  groups : Table Group 8
  ports : Table Port 6
  /-- The commands that wait, first in first out. -/
  pending : List Instr
  deriving DecidableEq, Repr

/-- The part right after the release of RESETn with these strap levels (R174, R188): every block at its
power-on values, mode TESTING with the power-on test in progress. The time base starts at 0 (log 12) and
no buffer byte is listed (log 10). -/
def State.powerOnValues (psel : BitVec 3) (rate : BitVec 2) : State :=
  { now := 0, inReset := false, mode := .testing, goodCount := 0, startUp := true, rate := rate,
    lowMark := Config.powerOnLowMark, dormancyLimit := 0, poolArmed := true, arrival := 0#32,
    descriptors := Table.replicate 128 none, entries := Table.replicate 256 none,
    buffers := Table.replicate 384 .retired, mem := [],
    mailboxes := Table.replicate 32 Mailbox.blank, groups := Table.replicate 8 Group.undefined,
    ports := Table.ofFn fun p => Port.powerOn (decide (psel.toNat = p.val)), pending := [] }

/-- The machine right after reset. DESIGN CHOICE (log 1, unsafe): the straps are the board's; here PSEL is
0 (port 0 is principal) and RATE is 0. -/
def State.reset : State := State.powerOnValues 0#3 0#2

end Sys2Proof.Machine
end

