-- ==== Sys2Proof/Machine/Ops.lean ====
section
/-! DEFINITION. The named reads and writes of the records of State, the reply slots (R156, R158) and the
counters (R137). Every meaning goes through these. -/

namespace Sys2Proof.Machine

/-! ### Records -/

/-- The record of port `p` (R119). -/
def State.port (s : State) (p : PortId) : Port := s.ports.get p

/-- Port `p`'s record changed by `f`. -/
def State.updPort (s : State) (p : PortId) (f : Port → Port) : State :=
  { s with ports := s.ports.modify p f }

/-- Every port's record changed by `f`. -/
def State.allPorts (s : State) (f : Port → Port) : State := { s with ports := s.ports.map f }

/-- The record of mailbox `m` (R21). -/
def State.mbx (s : State) (m : MailboxId) : Mailbox := s.mailboxes.get m

/-- Mailbox `m`'s record changed by `f`. -/
def State.updMbx (s : State) (m : MailboxId) (f : Mailbox → Mailbox) : State :=
  { s with mailboxes := s.mailboxes.modify m f }

/-- The record of group `32 + g` (R107). -/
def State.grp (s : State) (g : GroupId) : Group := s.groups.get g

/-- Group `32 + g`'s record changed by `f`. -/
def State.updGrp (s : State) (g : GroupId) (f : Group → Group) : State :=
  { s with groups := s.groups.modify g f }

/-- The descriptor `d`; absent while it is FREE (R1). -/
def State.desc (s : State) (d : DescId) : Option Descriptor := s.descriptors.get d

/-- Descriptor `d` replaced. -/
def State.setDesc (s : State) (d : DescId) (x : Option Descriptor) : State :=
  { s with descriptors := s.descriptors.set d x }

/-- A LIVE descriptor changed by `f`; a FREE one stays FREE. -/
def State.updDesc (s : State) (d : DescId) (f : Descriptor → Descriptor) : State :=
  s.setDesc d ((s.desc d).map f)

/-- The entry `e`; absent while it is FREE (R4). -/
def State.entry (s : State) (e : EntryId) : Option Entry := s.entries.get e

/-- Entry `e` replaced. -/
def State.setEntry (s : State) (e : EntryId) (x : Option Entry) : State :=
  { s with entries := s.entries.set e x }

/-- A non-FREE entry changed by `f`; a FREE one stays FREE. -/
def State.updEntry (s : State) (e : EntryId) (f : Entry → Entry) : State :=
  s.setEntry e ((s.entry e).map f)

/-- The entry is QUEUED (R4). -/
def Entry.queued (en : Entry) : Bool := en.offer.isNone

/-- The entry `e` is QUEUED. -/
def State.isQueued (s : State) (e : EntryId) : Bool :=
  match s.entry e with
  | some en => en.queued
  | none => false

/-! ### Resource counts (R1, R4, R6) -/

/-- The store's free-descriptor count (R1). -/
def State.freeDescriptors (s : State) : Nat := s.descriptors.count (·.isNone)

/-- The store's free-entry count (R4). -/
def State.freeEntries (s : State) : Nat := s.entries.count (·.isNone)

/-- The free-buffer count (R6). -/
def State.freeBuffers (s : State) : Nat := s.buffers.count (· = .free)

/-- The retired-buffer count (R6). -/
def State.retiredBuffers (s : State) : Nat := s.buffers.count (· = .retired)

/-- Some descriptor is LIVE (R178 check 3). -/
def State.anyLive (s : State) : Bool := !(s.descriptors.indices (·.isSome)).isEmpty

/-! ### Counters -/

/-- A counter raised by one; at 65535 it stays (R137). -/
def bump (c : BitVec 16) : BitVec 16 := if c = Config.counterTop then c else c + 1#16

/-! ### The order of entries (R23, R68) -/

/-- The rank of a class: a higher number is served first (R2). -/
def MessageClass.rank (c : MessageClass) : Nat :=
  match c with
  | .bulk => 0
  | .normal => 1
  | .high => 2
  | .urgent => 3

/-- The class rank and the arrival sequence that decide an entry's place; an entry's descriptor supplies
them (R5). An entry that names no LIVE descriptor, of which there is none (R4), stands last. -/
def State.key (s : State) (e : EntryId) : Nat × Nat :=
  match s.entry e with
  | some en =>
    match s.desc en.descriptor with
    | some d => (d.cls.rank, d.sequence.toNat)
    | none => (0, 0)
  | none => (0, 0)

/-- The first key stands ahead of the second: a higher class, or the same class and a lower arrival
sequence, compared as plain unsigned numbers (R23, R68). -/
def keyAhead (a b : Nat × Nat) : Bool := decide (b.1 < a.1 ∨ (a.1 = b.1 ∧ a.2 < b.2))

/-- Entry `e` put in its place in a queue (R23): ahead of the first entry that must stand behind it. -/
def State.insertByKey (s : State) (e : EntryId) (queue : List EntryId) : List EntryId :=
  match queue with
  | [] => [e]
  | x :: rest => if keyAhead (s.key e) (s.key x) then e :: x :: rest else x :: s.insertByKey e rest

/-! ### Reply slots (R156, R158) -/

/-- The reply is DEFERRED and waits for `a`. -/
def Reply.awaits (r : Reply) (a : Awaited) : Bool := r.state = .deferred a

/-- The reply is READY. -/
def Reply.isReady (r : Reply) : Bool :=
  match r.state with
  | .ready _ _ => true
  | _ => false

/-- The reply is SENDING. -/
def Reply.isSending (r : Reply) : Bool := r.state = .sending

/-- A reply takes an empty slot; a READY one stands last in the order of ready replies (R156). -/
def Port.post (x : Port) (r : Reply) : Port := { x with replies := x.replies ++ [r] }

/-- The deferred reply that waits for `a`, if one is owed, is completed OK: it becomes READY at the end of
the port's order of ready replies (R158). -/
def Port.complete (x : Port) (a : Awaited) (res : Results) : Port :=
  match x.replies.find? (·.awaits a) with
  | none => x
  | some r =>
    { x with replies := x.replies.filter (fun y => !y.awaits a) ++
        [{ r with state := .ready .ok res }] }

/-- The answer of a command that is refused: a status and no results (R152). -/
def refuse (s : State) (st : Status) : State × ReplyState := (s, .ready st .none)

/-- The answer of a command that is done. -/
def answer (s : State) (res : Results) : State × ReplyState := (s, .ready .ok res)

/-! ### The time base -/

/-- The time base has reached `t`: an expiry is taken when the base reaches its deadline (R73, R92, log 4). -/
def State.reach (s : State) (t : Nat) : State := { s with now := max s.now t }

end Sys2Proof.Machine
end

