-- ==== Sys2Proof/Machine/Frames.lean ====
section
/-! DEFINITION. The frames the part sends, as bytes on the line (R142, R149, R152 to R155). A port's
transmitter holds the frame; these functions say what the host sees of it. -/

namespace Sys2Proof.Machine

/-- Status codes 0 to 19 (8.7). -/
def Status.code (s : Status) : Byte :=
  match s with
  | .ok => 0#8
  | .malformed => 1#8
  | .range => 2#8
  | .notAttached => 3#8
  | .notPrincipal => 4#8
  | .notOwner => 5#8
  | .noSuch => 6#8
  | .wrongState => 7#8
  | .closed => 8#8
  | .full => 9#8
  | .noRoute => 10#8
  | .noMailbox => 11#8
  | .noDescriptor => 12#8
  | .noEntry => 13#8
  | .noBuffer => 14#8
  | .dupTag => 15#8
  | .noTag => 16#8
  | .partialCancel => 17#8
  | .testing => 18#8
  | .faulted => 19#8

/-- 0 FREE, 1 OPEN, 2 CLOSING, 3 DORMANT (R149). -/
def MailboxState.code (m : MailboxState) : Byte :=
  match m with
  | .free => 0#8
  | .opened => 1#8
  | .closing => 2#8
  | .dormant => 3#8

/-- 0 DOWN, 1 ANNOUNCED, 2 UP (R149). -/
def Session.code (s : Session) : Byte :=
  match s with
  | .down => 0#8
  | .announced => 1#8
  | .up => 2#8

/-- 0 TESTING, 1 RUNNING, 2 FAULT (R149). -/
def Mode.code (m : Mode) : Byte :=
  match m with
  | .testing => 0#8
  | .running => 1#8
  | .fault => 2#8

/-- 0 DELIVERED to 5 PURGED (R90, R149). -/
def EntryOutcome.code (o : EntryOutcome) : Byte :=
  match o with
  | .delivered => 0#8
  | .declined => 1#8
  | .expired => 2#8
  | .exhausted => 3#8
  | .cancelled => 4#8
  | .purged => 5#8

/-- An event set as a byte, bit 7 at 0 (R149). -/
def eventByte (e : EventSet) : Byte := e.setWidth 8

/-- Group state and policy: 0 UNDEFINED or 1 DEFINED, then 0 STRICT or 1 LENIENT; an UNDEFINED group shows
STRICT (R110, R149). -/
def policyBytes (p : Option Policy) : List Byte :=
  match p with
  | none => [0#8, 0#8]
  | some .strict => [1#8, 0#8]
  | some .lenient => [1#8, 1#8]

/-- The results of a REPLY as bytes, in the order of R152. -/
def Results.bytes (r : Results) : List Byte :=
  match r with
  | .none => []
  | .attached epoch p principal => bytesOfHalf epoch ++ [byteOf p.val, byteOfBool principal]
  | .detached epoch => bytesOfHalf epoch
  | .openedMailbox m depth ackWindow retryLimit watermark =>
      [byteOf m.val, byteOf depth] ++ halfOf ackWindow ++ [byteOf retryLimit, byteOf watermark]
  | .closedMailbox m count => [byteOf m.val, byteOf count]
  | .queueLength m length => [byteOf m.val, byteOf length]
  | .reclaimed m length held => [byteOf m.val, byteOf length, byteOfBool held]
  | .mailbox v =>
      [byteOf v.id.val, v.state.code, byteOf v.owner.val, byteOfBool v.held, byteOf v.depth]
        ++ halfOf v.ackWindow
        ++ [byteOf v.retryLimit, byteOf v.watermark, byteOfBool v.armed, byteOf v.length,
            byteOf v.offered]
        ++ halfOf v.dormancyRemaining ++ [byteOfBool v.closePending]
  | .sent sequence targets skipped => bytesOfWord sequence ++ [byteOf targets, byteOf skipped]
  | .cancelled sequence removed => bytesOfWord sequence ++ [byteOf removed]
  | .partlyCancelled sequence removed inFlight =>
      bytesOfWord sequence ++ [byteOf removed, byteOf inFlight]
  | .events enables flags => [eventByte enables, eventByte flags]
  | .pending flags => [eventByte flags]
  | .pool v =>
      [v.mode.code] ++ halfOf v.goodCount ++ [byteOf v.freeDescriptors] ++ halfOf v.freeEntries
        ++ halfOf v.freeBuffers ++ halfOf v.retiredBuffers ++ halfOf v.lowMark
        ++ [byteOfBool v.armed] ++ halfOf v.dormancyLimit
  | .port v =>
      [byteOf v.port.val, v.session.code] ++ bytesOfHalf v.epoch
        ++ [byteOfBool v.principal, byteOf v.window, byteOf v.inFlight, byteOf v.owned,
            byteOf v.dormant]
        ++ bytesOfHalf v.badFrames ++ bytesOfHalf v.droppedCommands ++ bytesOfHalf v.lostReports
        ++ bytesOfHalf v.strayAnswers
  | .configured lowMark dormancyLimit => halfOf lowMark ++ halfOf dormancyLimit
  | .group g policy members =>
      [byteOf (g.val + 32)] ++ policyBytes policy ++ [byteOf members.length]
        ++ members.map fun m => byteOf m.val
  | .retested goodCount => halfOf goodCount

/-- The KIND of a part frame (R142). -/
def Frame.kind (f : Frame) : Byte :=
  match f with
  | .hello _ => Kind.hello
  | .reply _ _ _ _ => Kind.reply
  | .offer _ => Kind.offer
  | .report _ => Kind.report
  | .event _ => Kind.event

/-- The SEQ of a part frame: echoed in a REPLY, 0 in every other (R142, R148). -/
def Frame.seq (f : Frame) : Byte :=
  match f with
  | .reply _ seq _ _ => seq
  | .hello _ | .offer _ | .report _ | .event _ => 0#8

/-- The body of a part frame (R152 to R155). -/
def Frame.body (f : Frame) : List Byte :=
  match f with
  | .hello h =>
      bytesOfHalf Config.partCode
        ++ [Config.revision, byteOf h.port.val, byteOfBool h.principal, h.mode.code]
        ++ halfOf h.goodCount ++ [h.rate.setWidth 8]
  | .reply kind _ status results => kind :: status.code :: results.bytes
  | .offer o =>
      [o.id, byteOf o.mailbox.val, byteOf o.senderPort.val, byteOf o.cls.rank, byteOf o.attempt]
        ++ bytesOfHalf o.tag ++ bytesOfWord o.sequence ++ o.payload
  | .report r =>
      bytesOfHalf r.tag ++ bytesOfWord r.sequence
        ++ [r.summary.code, byteOf r.targets, byteOf r.skipped, byteOf r.tally.delivered,
            byteOf r.tally.declined, byteOf r.tally.expired, byteOf r.tally.exhausted,
            byteOf r.tally.cancelled, byteOf r.tally.purged]
  | .event flags => [eventByte flags]

/-- A part frame on the line (R142). -/
def Frame.wire (f : Frame) : List Byte := wireFrame f.kind f.seq f.body

/-- The bytes that a port's transmit line has still to begin: those of the frame on the line whose character
was not begun, or none while the transmitter is idle or its frame was stopped (R140, R160). -/
def State.txLine (s : State) (p : PortId) : List Byte :=
  match (s.port p).tx with
  | .sending f => f.wire.drop (s.port p).txd.begun
  | .idle | .stopped => []

end Sys2Proof.Machine
end

