-- ==== Sys2Proof/Machine/Flags.lean ====
section
/-! DEFINITION. The event units (R162 to R164) and the two armings that raise flags: level arming (R26)
and pool-low arming (R19). -/

namespace Sys2Proof.Machine

/-- The seven events (R162). -/
inductive Event where
  | level | poolLow | overrun | linkError | reportLost | mailboxClosed | portDown
  deriving DecidableEq, Repr

/-- The event's place in an event set (R149). -/
def Event.bit (e : Event) : EventSet :=
  match e with
  | .level => 0x01#7
  | .poolLow => 0x02#7
  | .overrun => 0x04#7
  | .linkError => 0x08#7
  | .reportLost => 0x10#7
  | .mailboxClosed => 0x20#7
  | .portDown => 0x40#7

/-- The notice condition (R164): with the gate open and an enabled flag pending, a notice is queued and
the gate closes. -/
def Port.evalNotice (x : Port) : Port :=
  if x.noticeOutstanding = false ∧ x.flags &&& x.enables ≠ 0#7 then
    { x with noticeQueued := true, noticeOutstanding := true }
  else x

/-- A raise at a port's event unit (R163): at an UP port the flag becomes or stays pending and the notice
condition is evaluated; at any other port nothing happens. -/
def Port.raise (x : Port) (e : Event) : Port :=
  if x.session = .up then Port.evalNotice { x with flags := x.flags ||| e.bit } else x

/-- A raise of one event at one port (R163). -/
def State.raise (s : State) (e : Event) (p : PortId) : State := s.updPort p (·.raise e)

/-- A raise of one event at every UP port (R19). -/
def State.raiseAll (s : State) (e : Event) : State := s.allPorts (·.raise e)

/-- One evaluation of a mailbox's level arming (R26), with the queue as it stands. -/
def State.evalLevel (s : State) (m : MailboxId) : State :=
  let x := s.mbx m
  if x.armed then
    if x.watermark ≠ 0 ∧ x.watermark ≤ x.queue.length then
      (s.updMbx m fun y => { y with armed := false }).raise .level x.owner
    else s
  else if x.queue.length < x.watermark then s.updMbx m fun y => { y with armed := true }
  else s

/-- One evaluation of pool-low arming (R19), with the free count and the low mark as they stand. -/
def State.evalPool (s : State) : State :=
  if s.poolArmed then
    if s.freeBuffers < s.lowMark then ({ s with poolArmed := false } : State).raiseAll .poolLow
    else s
  else if s.lowMark ≤ s.freeBuffers then { s with poolArmed := true }
  else s

end Sys2Proof.Machine
end

