-- ==== Sys2Proof/Machine/Operands.lean ====
section
/-! DEFINITION. The fields of host frames read from their bytes: each function answers the value a byte
stands for, or nothing where the byte lies outside the field's range or encoding (R149 to R151). -/

namespace Sys2Proof.Machine

/-- A mailbox id, 0 to 31 (R21). -/
def mailboxId (b : Byte) : Option MailboxId :=
  if h : b.toNat < 32 then some ⟨b.toNat, h⟩ else none

/-- A port number, 0 to 5 (R138). -/
def portId (b : Byte) : Option PortId :=
  if h : b.toNat < 6 then some ⟨b.toNat, h⟩ else none

/-- A group id, 32 to 39 (R107). -/
def groupId (b : Byte) : Option GroupId :=
  if h : 32 ≤ b.toNat ∧ b.toNat < 40 then some ⟨b.toNat - 32, by omega⟩ else none

/-- A yes/no field: 0 no, 1 yes (R149). -/
def yesNo (b : Byte) : Option Bool :=
  if b = 0#8 then some false else if b = 1#8 then some true else none

/-- A policy: 0 STRICT, 1 LENIENT (R149). -/
def policyOf (b : Byte) : Option Policy :=
  if b = 0#8 then some .strict else if b = 1#8 then some .lenient else none

/-- A class: 0 BULK to 3 URGENT (R149). -/
def classOf (b : Byte) : Option MessageClass :=
  if b = 0#8 then some .bulk
  else if b = 1#8 then some .normal
  else if b = 2#8 then some .high
  else if b = 3#8 then some .urgent
  else none

/-- An event set: bit 7 is 0 (R149). -/
def eventSet (b : Byte) : Option EventSet :=
  if b.msb then none else some (b.extractLsb' 0 7)

/-- A delivery window, 1 to 4 (R127). -/
def windowOf (b : Byte) : Option Nat :=
  if 1 ≤ b.toNat ∧ b.toNat ≤ 4 then some b.toNat else none

/-- Where a SEND goes: a mailbox (0 to 31) or a group (32 to 39) (R45). -/
inductive Destination where
  | unicast (m : MailboxId)
  | fanOut (g : GroupId)
  deriving DecidableEq, Repr

/-- A destination field (R45). -/
def destinationOf (b : Byte) : Option Destination :=
  match mailboxId b with
  | some m => some (.unicast m)
  | none => (groupId b).map .fanOut

/-- The checked fields of a SEND (R45, R47). -/
structure SendFields where
  dest : Destination
  cls : MessageClass
  reportWanted : Bool
  tag : BitVec 16
  lifetime : Nat
  payload : List Byte
  deriving DecidableEq, Repr

/-- The range check of a SEND (R47): nothing where a field is out of range or the declared length is not
the number of payload bytes. -/
def sendFields (dest cls report : Byte) (tag lifetime : Half) (declared : Byte)
    (payload : List Byte) : Option SendFields :=
  match destinationOf dest, classOf cls, yesNo report with
  | some d, some c, some r =>
    if lifetime.toNat ≤ Config.maxLifetime ∧ declared.toNat ≤ Config.maxPayload
        ∧ payload.length = declared.toNat then
      some { dest := d, cls := c, reportWanted := r, tag := tag, lifetime := lifetime.toNat,
             payload := payload }
    else none
  | _, _, _ => none

/-- The settings of an OPEN are in range (R27 check 1). -/
def openSettingsOk (depth : Byte) (ackWindow : Half) (retry watermark : Byte) : Bool :=
  decide (1 ≤ depth.toNat ∧ depth.toNat ≤ 32 ∧ 1 ≤ ackWindow.toNat
    ∧ ackWindow.toNat ≤ Config.maxAckWindow ∧ 1 ≤ retry.toNat ∧ retry.toNat ≤ 15
    ∧ watermark.toNat ≤ 32 ∧ watermark.toNat ≤ depth.toNat)

end Sys2Proof.Machine
end

