-- ==== Sys2Proof/Machine/Store.lean ====
section
/-! DEFINITION. The message store's acts: resolution of an entry (R13), completion of a message (R14) with
its report (R97 to R102), the non-accepting resolution table (R82), requeue (R83), the causes that resolve
several entries (R16), and allocation (R10, R11). -/

namespace Sys2Proof.Machine

/-! ### Tally and report -/

/-- One more outcome counted (R13 step 4). -/
def Tally.add (t : Tally) (o : EntryOutcome) : Tally :=
  match o with
  | .delivered => { t with delivered := t.delivered + 1 }
  | .declined => { t with declined := t.declined + 1 }
  | .expired => { t with expired := t.expired + 1 }
  | .exhausted => { t with exhausted := t.exhausted + 1 }
  | .cancelled => { t with cancelled := t.cancelled + 1 }
  | .purged => { t with purged := t.purged + 1 }

/-- The tally of a new message (R2). -/
def Tally.zero : Tally :=
  { delivered := 0, declined := 0, expired := 0, exhausted := 0, cancelled := 0, purged := 0 }

/-- The count of one outcome (R91). -/
def Tally.count (t : Tally) (o : EntryOutcome) : Nat :=
  match o with
  | .delivered => t.delivered
  | .declined => t.declined
  | .expired => t.expired
  | .exhausted => t.exhausted
  | .cancelled => t.cancelled
  | .purged => t.purged

/-- The sum of the six counts (R12). -/
def Tally.sum (t : Tally) : Nat :=
  t.delivered + t.declined + t.expired + t.exhausted + t.cancelled + t.purged

/-- The outcomes in the order that breaks ties (R100). -/
def EntryOutcome.inOrder : List EntryOutcome :=
  [.delivered, .declined, .expired, .exhausted, .cancelled, .purged]

/-- The summary outcome (R100): the largest count, the earlier outcome in the order on a tie. With one
target that is the target's own outcome. -/
def Tally.summary (t : Tally) : EntryOutcome :=
  EntryOutcome.inOrder.foldl (fun best o => if t.count best < t.count o then o else best) .delivered

/-- The report of a completed message (R99). -/
def Descriptor.report (d : Descriptor) : Report :=
  { tag := d.tag, sequence := d.sequence, summary := d.tally.summary, targets := d.targets,
    skipped := d.skipped, tally := d.tally }

/-- A report that passes the check of R98 is appended while fewer than 16 wait (R101); otherwise it is
lost: the counter rises and REPORT_LOST is raised (R102). -/
def Port.takeReport (x : Port) (r : Report) : Port :=
  if x.reports.length < Config.reportPlaces then { x with reports := x.reports ++ [r] }
  else Port.raise { x with lostReports := bump x.lostReports } .reportLost

/-- The report machinery (R97, R98): nothing when no report is wanted, and nothing unless the sender port
is UP in the message's epoch. -/
def State.handReport (s : State) (d : Descriptor) : State :=
  if d.reportWanted then
    s.updPort d.senderPort fun x =>
      if x.session = .up ∧ x.epoch = d.senderEpoch then x.takeReport d.report else x
  else s

/-! ### Completion and resolution -/

/-- Buffers moved to a set. -/
def State.moveBuffers (s : State) (bufs : List BufferId) (set : BufferSet) : State :=
  { s with buffers := bufs.foldl (fun t b => t.set b set) s.buffers }

/-- The message completes (R14): the report is decided, the buffers become free, the descriptor becomes
FREE and pool-low arming is evaluated. -/
def State.completeMessage (s : State) (i : DescId) (d : Descriptor) : State :=
  (((s.handReport d).moveBuffers d.buffers .free).setDesc i none).evalPool

/-- The message completes if its reference count is zero (R13 step 7). -/
def State.completeIfDone (s : State) (i : DescId) : State :=
  match s.desc i with
  | some d => if d.refCount = 0 then s.completeMessage i d else s
  | none => s

/-- The port's in-flight list and prepared offer without the entry (R13 step 2, R64). The frame of an entry
that was the prepared offer is discarded, or stops if it was in transmission (R13, R85, R133, log 26). -/
def Port.leaveFlight (x : Port) (e : EntryId) : Port :=
  let y := { x with inFlight := x.inFlight.filter fun o => decide (o ≠ e) }
  match x.prepared with
  | some pr =>
    if pr.entry = e then
      { y with
        prepared := none
        tx := match x.tx with
          | .sending (.offer _) => .stopped
          | t => t }
    else y
  | none => y

/-- The mailbox's queue without the entry (R13 step 1); a PURGED outcome in a CLOSING mailbox adds one to
the close count (R32). -/
def Mailbox.release (x : Mailbox) (e : EntryId) (o : EntryOutcome) : Mailbox :=
  { x with
    queue := x.queue.filter fun q => decide (q ≠ e)
    closeCount := if o = .purged ∧ x.state = .closing then x.closeCount + 1 else x.closeCount }

/-- One outcome counted and one reference less (R13 steps 4 and 5). -/
def Descriptor.settle (d : Descriptor) (o : EntryOutcome) : Descriptor :=
  { d with tally := d.tally.add o, refCount := d.refCount - 1 }

/-- The resolution of an entry with an outcome (R13). A FREE entry has no outcome to receive. -/
def State.resolve (s : State) (e : EntryId) (o : EntryOutcome) : State :=
  match s.entry e with
  | none => s
  | some en =>
    (((((s.updMbx en.mailbox (·.release e o)).updPort (s.mbx en.mailbox).owner
      (·.leaveFlight e)).setEntry e none).updDesc en.descriptor (·.settle o)).evalLevel
        en.mailbox).completeIfDone en.descriptor

/-- Several entries resolved in turn as one cause (R16). -/
def State.resolveAll (s : State) (es : List EntryId) (o : EntryOutcome) : State :=
  es.foldl (fun t e => t.resolve e o) s

/-- An OFFERED entry becomes QUEUED again in its place (R83). -/
def State.requeue (s : State) (e : EntryId) : State :=
  match s.entry e with
  | none => s
  | some en =>
    (s.setEntry e (some { en with offer := none })).updPort (s.mbx en.mailbox).owner
      (·.leaveFlight e)

/-- The outcome that the non-accepting resolution table gives, or none for a requeue (R82). Withdrawal
uses the table without line 4 (`counted` no, R85). -/
def nonAcceptingOutcome (d : Descriptor) (m : Mailbox) (attempts : Nat) (counted : Bool) :
    Option EntryOutcome :=
  if d.cancelRequested then some .cancelled
  else if d.expired then some .expired
  else if m.state = .closing then some .purged
  else if counted ∧ attempts = m.retryLimit then some .exhausted
  else none

/-- An unaccepted offer goes through the non-accepting resolution table (R82). -/
def State.nonAccepting (s : State) (e : EntryId) (counted : Bool) : State :=
  match s.entry e with
  | none => s
  | some en =>
    match s.desc en.descriptor with
    | none => s
    | some d =>
      match nonAcceptingOutcome d (s.mbx en.mailbox) en.attempts counted with
      | some o => s.resolve e o
      | none => s.requeue e

/-! ### Sets of entries -/

/-- The QUEUED entries of a message, in the order in which they were created: entries are taken lowest
number first, so that is the order of their numbers (R16, log 9). -/
def State.queuedOf (s : State) (d : DescId) : List EntryId :=
  s.entries.indices fun x =>
    match x with
    | some en => decide (en.descriptor = d) && en.queued
    | none => false

/-- The QUEUED entries of a mailbox, in queue order. -/
def State.queuedIn (s : State) (m : MailboxId) : List EntryId :=
  (s.mbx m).queue.filter s.isQueued

/-- The LIVE descriptor of a port, an epoch and a tag (R3). -/
def State.findTag (s : State) (p : PortId) (epoch tag : BitVec 16) : Option DescId :=
  s.descriptors.first fun x =>
    match x with
    | some d => decide (d.senderPort = p ∧ d.senderEpoch = epoch ∧ d.tag = tag)
    | none => false

/-! ### Closing and freeing mailboxes -/

/-- The mailbox leaves every group's member list (R34, R116). -/
def State.leaveGroups (s : State) (m : MailboxId) : State :=
  { s with
    groups := s.groups.map fun g => { g with members := g.members.filter fun x => decide (x ≠ m) } }

/-- A CLOSING mailbox becomes FREE and its deferred close reply, if one is recorded, is completed OK with
the close count (R32). -/
def State.finishClose (s : State) (m : MailboxId) : State :=
  let x := s.mbx m
  let t := s.updMbx m fun _ => Mailbox.blank
  match x.closeReply with
  | some (q, _) => t.updPort q (·.complete (.close m) (.closedMailbox m x.closeCount))
  | none => t

/-- A CLOSING mailbox whose queue is empty becomes FREE in the same act (R15, R32). -/
def State.closeIfEmpty (s : State) (m : MailboxId) : State :=
  if (s.mbx m).state = .closing ∧ (s.mbx m).queue = [] then s.finishClose m else s

/-- An act on an entry, and after it the close of the entry's mailbox if the act emptied it (R15). -/
def State.thenClose (s : State) (e : EntryId) (act : State → State) : State :=
  match s.entry e with
  | none => s
  | some en => (act s).closeIfEmpty en.mailbox

/-! ### Allocation (R11) -/

/-- One entry made QUEUED for a target and put in its queue; level arming is evaluated (R11 steps 4 and 5,
R23, R26). -/
def State.addEntry (s : State) (d : DescId) (m : MailboxId) : State :=
  match s.entries.first (·.isNone) with
  | none => s
  | some e =>
    let t := s.setEntry e (some { descriptor := d, mailbox := m, attempts := 0, offer := none })
    (t.updMbx m fun x => { x with queue := t.insertByKey e x.queue }).evalLevel m

/-- The free buffers an allocation takes: the lowest numbers first (R6, log 9). -/
def State.takeable (s : State) (n : Nat) : List BufferId :=
  (s.buffers.indices (· = .free)).take n

/-- The descriptor of an accepted SEND (R2). -/
def State.newDescriptor (s : State) (p : PortId) (f : SendFields) (bufs : List BufferId)
    (targets skipped : Nat) : Descriptor :=
  { senderPort := p, senderEpoch := (s.port p).epoch, tag := f.tag, cls := f.cls,
    length := f.payload.length, buffers := bufs, sequence := s.arrival + 1#32,
    deadline := if f.lifetime = 0 then none else some (s.now + f.lifetime),
    reportWanted := f.reportWanted, cancelRequested := false, expired := false,
    refCount := targets, targets := targets, skipped := skipped, tally := Tally.zero }

/-- The store's act for an accepted SEND (R11): a descriptor LIVE, the arrival counter advanced, the
payload in its buffers, one QUEUED entry a target in target order, pool-low arming evaluated. -/
def State.allocate (s : State) (p : PortId) (f : SendFields) (targets : List MailboxId)
    (skipped : Nat) : State :=
  match s.descriptors.first (·.isNone) with
  | none => s
  | some d =>
    let bufs := s.takeable (buffersFor f.payload.length)
    let x := s.newDescriptor p f bufs targets.length skipped
    let t := (({ s with
      arrival := s.arrival + 1#32
      mem := s.mem.writePayload bufs 0 f.payload } : State).moveBuffers bufs .inUse).setDesc d
        (some x)
    (targets.foldl (fun u m => u.addEntry d m) t).evalPool

end Sys2Proof.Machine
end

