-- ==== Sys2Proof/Machine/Link.lean ====
section
/-! DEFINITION. The link of a port: the stages a command frame passes (R121, R147, R157, R173), discarded
frames (R145, R146), the outbound arbiter and the transmitter (R124, R159, R160). -/

namespace Sys2Proof.Machine

/-- A step while RESETn is high; while it is low the part takes no event (R175). -/
def event (f : State → State) (s : State) : Host.Outcome State Fault Refusal :=
  .next (if s.inReset then s else f s)

/-! ### The stages of a command -/

/-- A command that finds four replies owed is dropped (R157). -/
def State.dropCommand (s : State) (p : PortId) : State :=
  s.updPort p fun x => Port.raise { x with droppedCommands := bump x.droppedCommands } .overrun

/-- The FAULT stage and the session stage (R121, R173): the status of the refusal, if any. -/
def State.stageRefusal (s : State) (p : PortId) (kind : Byte) : Option Status :=
  if s.mode = .fault ∧ kind ≠ Kind.queryPool then some .faulted
  else if (s.port p).session = .announced ∧ kind ≠ Kind.attach ∧ kind ≠ Kind.queryPool then
    some .notAttached
  else none

/-- A good command frame of any kind on port `p` (R121, R147, R157): ignored while the port is DOWN,
dropped while four replies are owed; otherwise it takes a slot and `own` says what becomes of it and of
its reply. -/
def State.takeFrame (s : State) (p : PortId) (kind seq : Byte)
    (own : State → State × ReplyState) : State :=
  if (s.port p).session = .down then s
  else if Config.replySlots ≤ (s.port p).replies.length then s.dropCommand p
  else
    let r := own s
    r.1.updPort p (·.post { kind := kind, seq := seq, state := r.2 })

/-- A well-formed command (R121): the FAULT stage, the session stage, then the command's own checks and
effect `own`. -/
def State.takeCommand (s : State) (p : PortId) (kind seq : Byte)
    (own : State → State × ReplyState) : State :=
  s.takeFrame p kind seq fun t =>
    match t.stageRefusal p kind with
    | some st => refuse t st
    | none => own t

/-- The principal check of a principal command (R120): `own` runs on the principal's port alone. -/
def ofPrincipal (p : PortId) (own : State → State × ReplyState) (s : State) : State × ReplyState :=
  if (s.port p).principal then own s else refuse s .notPrincipal

/-- MALFORMED (R147 step 3): the reply is ready at once and the command has no further effect. -/
def State.takeMalformed (s : State) (p : PortId) (kind seq : Byte) : State :=
  s.takeFrame p kind seq fun t => refuse t .malformed

/-! ### Discarded frames -/

/-- A frame is discarded by the receiver (R145): bad frames is counted, LINK_ERROR is raised if the port
is UP, and the receiver is in HUNT. A DOWN port assembles no frame (R144). -/
def State.discardFrame (s : State) (p : PortId) : State :=
  if (s.port p).session = .down then s
  else
    s.updPort p fun x =>
      Port.raise { x with receiver := .hunt, badFrames := bump x.badFrames } .linkError

/-- A gap expiry (R146): in HUNT no gap is measured. -/
def State.gapExpired (s : State) (p : PortId) : State :=
  if (s.port p).receiver = .hunt then s else s.discardFrame p

/-! ### The transmitter -/

/-- The transmitter holds an OFFER frame on the line. -/
def Transmitter.isOffer (t : Transmitter) : Bool :=
  match t with
  | .sending (.offer _) => true
  | _ => false

/-- A frame in transmission stops (R124, R160): no byte of it is begun any more. The character under way is
TXD's (`Port.txd`), which goes on with it to its stop bit. DESIGN CHOICE (log 26, unsafe): a stop inside the
last byte is a stop too, without the act of a last byte (`lastByteSent`) and with the 3 ms idle. -/
def Transmitter.stop (t : Transmitter) : Transmitter :=
  match t with
  | .sending _ => .stopped
  | .idle => .idle
  | .stopped => .stopped

/-- An OFFER frame in transmission stops as `Transmitter.stop` says; any other frame goes on (R133, log 26). -/
def Transmitter.stopOffer (t : Transmitter) : Transmitter :=
  if t.isOffer then .stopped else t

/-- The oldest READY reply of a port's slots, become SENDING in its slot, with its frame (R156, R159). -/
def beginReply (rs : List Reply) : Option (Frame × List Reply) :=
  match rs with
  | [] => none
  | r :: rest =>
    match r.state with
    | .ready st res => some (.reply r.kind r.seq st res, { r with state := .sending } :: rest)
    | .deferred _ | .sending => (beginReply rest).map fun x => (x.1, r :: x.2)

/-- The HELLO of a port as it stands now (R126). -/
def State.hello (s : State) (p : PortId) : HelloFrame :=
  { port := p, principal := (s.port p).principal, mode := s.mode, goodCount := s.goodCount,
    rate := s.rate }

/-- The arbiter's choice at a port whose transmitter is free (R159), `h` being the HELLO it would send:
HELLO, the oldest READY reply, the EVENT notice, the report at the head, the prepared offer. -/
def Port.beginFrame (x : Port) (h : HelloFrame) : Port :=
  if x.helloPending then { x with helloPending := false, tx := .sending (.hello h) }
  else
    match beginReply x.replies with
    | some (f, rs) => { x with replies := rs, tx := .sending f }
    | none =>
      if x.noticeQueued then { x with noticeQueued := false, tx := .sending (.event x.flags) }
      else
        match x.reports with
        | r :: rest => { x with reports := rest, tx := .sending (.report r) }
        | [] =>
          match x.prepared with
          | some pr => { x with tx := .sending (.offer pr.frame) }
          | none => x

/-- The arbiter of a port decides (R159): it begins no frame while one is on the line or the 3 ms idle
runs. -/
def State.arbitrate (s : State) (p : PortId) : State :=
  if (s.port p).tx = .idle then s.updPort p (·.beginFrame (s.hello p)) else s

/-- The transmitter is free: no frame is on the line, and no bit of one is left on TXD. -/
def Port.freeTransmitter (x : Port) : Port := { x with tx := .idle, txd := .idle }

/-- An OFFER's entry passes to AWAITING (R72), its ack deadline set from its mailbox's ack window. -/
def State.offerSent (s : State) (e : EntryId) : State :=
  s.updEntry e fun en =>
    { en with
      offer := en.offer.map fun o =>
        { o with phase := .awaiting (s.now + (s.mbx en.mailbox).ackWindow) } }

/-- The last byte of a frame has been sent (R160): a REPLY empties its slot, an OFFER's entry becomes
AWAITING unless CLEAR has freed it, and in each case the transmitter is free. -/
def State.endFrame (s : State) (p : PortId) (f : Frame) : State :=
  match f with
  | .reply _ _ _ _ =>
    s.updPort p fun x =>
      { x.freeTransmitter with replies := x.replies.filter fun r => !r.isSending }
  | .offer _ =>
    match (s.port p).prepared with
    | some pr => (s.offerSent pr.entry).updPort p fun x => { x.freeTransmitter with prepared := none }
    | none => s.updPort p (·.freeTransmitter)
  | .hello _ | .report _ | .event _ => s.updPort p (·.freeTransmitter)

/-- The end of the frame on the line, and the arbiter's next decision in the same act (R160). -/
def State.lastByteSent (s : State) (p : PortId) : State :=
  match (s.port p).tx with
  | .sending f => (s.endFrame p f).arbitrate p
  | .idle | .stopped => s

/-- The 3 ms idle after a stopped frame ends, and the arbiter decides (R124, R159). -/
def State.stoppedIdleEnded (s : State) (p : PortId) : State :=
  if (s.port p).tx = .stopped then
    (s.updPort p (·.freeTransmitter)).arbitrate p
  else s

end Sys2Proof.Machine
end

