-- ==== Sys2Proof/Machine/Events.lean ====
section
/-! DEFINITION. The event commands (chapter 9): SET_EVENTS and READ_EVENTS. -/

namespace Sys2Proof.Machine

/-- SET_EVENTS (R166): the enables become the given set, the pending flags stay, and the notice condition
is evaluated. -/
def State.setEventsOwn (s : State) (p : PortId) (enables : Byte) : State × ReplyState :=
  match eventSet enables with
  | none => refuse s .range
  | some e =>
    answer (s.updPort p fun x => Port.evalNotice { x with enables := e })
      (.events e (s.port p).flags)

/-- What READ_EVENTS does to the event unit (R167): the flags are cleared, a notice not yet begun is
discarded and the gate opens. -/
def Port.readEvents (x : Port) : Port :=
  { x with flags := 0#7, noticeQueued := false, noticeOutstanding := false }

/-- READ_EVENTS (R167): the reply carries the pending flags as they stand. -/
def State.readEventsOwn (s : State) (p : PortId) : State × ReplyState :=
  answer (s.updPort p (·.readEvents)) (.pending (s.port p).flags)

/-- SET_EVENTS (R166). -/
def execSetEvents (p : PortId) (seq enables : Byte) : State → Host.Outcome State Fault Refusal :=
  event fun s => s.takeCommand p Kind.setEvents seq fun t => t.setEventsOwn p enables

/-- READ_EVENTS (R167). -/
def execReadEvents (p : PortId) (seq : Byte) : State → Host.Outcome State Fault Refusal :=
  event fun s => s.takeCommand p Kind.readEvents seq fun t => t.readEventsOwn p

end Sys2Proof.Machine
end

