-- ==== Sys2Proof/Machine/Session.lean ====
section
/-! DEFINITION. Port sessions (chapter 7): ATTACH, DETACH, session end, breaks and QUERY_PORT. -/

namespace Sys2Proof.Machine

/-! ### Attaching -/

/-- The epoch after `e` in the count of R128: 65535 is followed by 1. -/
def nextEpoch (e : BitVec 16) : BitVec 16 := if e = 0xFFFF#16 then 1#16 else e + 1#16

/-- Some LIVE descriptor of the port carries the epoch (R128). -/
def State.carriesEpoch (s : State) (p : PortId) (e : BitVec 16) : Bool :=
  !(s.descriptors.indices fun x =>
    match x with
    | some d => decide (d.senderPort = p ∧ d.senderEpoch = e)
    | none => false).isEmpty

/-- Counting upward from `e`, the first epoch that no LIVE descriptor of the port carries; `fuel` more
values may be passed over (R128). -/
def State.epochFrom (s : State) (p : PortId) (fuel : Nat) (e : BitVec 16) : BitVec 16 :=
  match fuel with
  | 0 => nextEpoch e
  | k + 1 => if s.carriesEpoch p (nextEpoch e) then s.epochFrom p k (nextEpoch e) else nextEpoch e

/-- The epoch that ATTACH chooses (R128): at most 128 values, one a LIVE descriptor, are passed over. -/
def State.chooseEpoch (s : State) (p : PortId) : BitVec 16 :=
  s.epochFrom p 128 (s.port p).epoch

/-- What ATTACH sets in the port record (R129). -/
def Port.attach (x : Port) (epoch : BitVec 16) (window : Nat) (enables : EventSet) : Port :=
  { x with
    epoch := epoch, window := some window, enables := enables, flags := 0#7,
    noticeOutstanding := false, noticeQueued := false, badFrames := 0#16,
    droppedCommands := 0#16, lostReports := 0#16, strayAnswers := 0#16, session := .up }

/-- ATTACH's own checks and effect (R127, R129). -/
def State.attachOwn (s : State) (p : PortId) (window enables : Byte) : State × ReplyState :=
  if (s.port p).session = .up then refuse s .wrongState
  else
    match windowOf window, eventSet enables with
    | some w, some e =>
      answer (s.updPort p (·.attach (s.chooseEpoch p) w e))
        (.attached (s.chooseEpoch p) p (s.port p).principal)
    | _, _ => refuse s .range

/-! ### Session end (R132) -/

/-- The causes of a session end. -/
inductive EndCause where
  | detach | lineBreak | testFault
  deriving DecidableEq, Repr

/-- Step 1 (R85): every entry of the in-flight list, oldest offer first, has its attempts lowered by one
and goes through the non-accepting resolution table without line 4. -/
def State.withdraw (s : State) (p : PortId) : State :=
  (s.port p).inFlight.foldl
    (fun t e =>
      (t.updEntry e fun en => { en with attempts := en.attempts - 1 }).nonAccepting e false) s

/-- Step 2 at one mailbox (R41): an OPEN mailbox of the port becomes DORMANT, with a dormancy deadline if
the limit is not 0; a CLOSING one becomes FREE. -/
def State.ownerGone (s : State) (p : PortId) (m : MailboxId) : State :=
  let x := s.mbx m
  if x.owner = p then
    match x.state with
    | .opened =>
      s.updMbx m fun y =>
        { y with
          state := .dormant
          dormancyDeadline :=
            if s.dormancyLimit = 0 then none else some (s.now + s.dormancyLimit * 1000) }
    | .closing => s.finishClose m
    | .free | .dormant => s
  else s

/-- Step 2 (R41): the mailboxes of the port, in ascending order of id. -/
def State.ownerGoneAll (s : State) (p : PortId) : State :=
  (List.finRange 32).foldl (fun t m => t.ownerGone p m) s

/-- The deferred close replies owed to the port cease to exist in the mailboxes (R33). -/
def State.forgetCloseReplies (s : State) (p : PortId) : State :=
  { s with
    mailboxes := s.mailboxes.map fun x =>
      { x with closeReply := x.closeReply.filter fun r => decide (r.1 ≠ p) } }

/-- Step 3 at the port (R133): owed replies and outbound frames not yet begun are discarded. By a break
every reply goes and any frame in transmission stops (R124); by another cause an OFFER frame stops and a
REPLY in transmission keeps its slot until its last byte (R156, log 11). -/
def Port.discardLink (x : Port) (c : EndCause) : Port :=
  match c with
  | .lineBreak =>
    { x with replies := [], noticeQueued := false, prepared := none, tx := x.tx.stop }
  | .detach | .testFault =>
    { x with
      replies := x.replies.filter (·.isSending), noticeQueued := false, prepared := none,
      tx := x.tx.stopOffer }

/-- The session state a session end leaves (R132 step 6). -/
def EndCause.after (c : EndCause) : Session :=
  match c with
  | .lineBreak => .down
  | .detach | .testFault => .announced

/-- Steps 4 to 6 (R132): reports, flags, enables, the gate and the window go, and the port leaves UP. Its
in-flight list is empty since step 1 (R85). -/
def Port.leaveUp (x : Port) (c : EndCause) : Port :=
  { x with
    inFlight := [], reports := [], flags := 0#7, enables := 0#7, noticeOutstanding := false, window := none,
    session := c.after }

/-- Step 7 (R136): PORT_DOWN is raised at the principal when another port's session has ended. -/
def State.raisePortDown (s : State) (p : PortId) : State :=
  if (s.port p).principal then s
  else s.allPorts fun x => if x.principal then x.raise .portDown else x

/-- A session end, taken whole in the order of R132. -/
def State.endSession (s : State) (p : PortId) (c : EndCause) : State :=
  ((((s.withdraw p).ownerGoneAll p).forgetCloseReplies p).updPort p
    fun x => (x.discardLink c).leaveUp c).raisePortDown p

/-! ### DETACH -/

/-- DETACH (R131): the session ends and the reply carries the epoch that is ending. The reply is the one
that the session end keeps: it takes its slot after the others are discarded. -/
def State.detachOwn (s : State) (p : PortId) : State × ReplyState :=
  answer (s.endSession p .detach) (.detached (s.port p).epoch)

/-! ### Breaks -/

/-- What a break start discards at the link (R124), and the port is DOWN (R123). -/
def Port.breakLink (x : Port) : Port :=
  { x.discardLink .lineBreak with helloPending := false, receiver := .hunt, session := .down }

/-- A break start (R122, R123). A line already in break gives no second one. -/
def State.breakStarts (s : State) (p : PortId) : State :=
  if (s.port p).lineInBreak then s
  else
    let t := s.updPort p fun x => { x with lineInBreak := true }
    match (s.port p).session with
    | .down => t
    | .announced => t.updPort p (·.breakLink)
    | .up => (t.endSession p .lineBreak).updPort p (·.breakLink)

/-- HELLO is queued and the port is ANNOUNCED (R125, R126); its receiver begins in HUNT (R144). -/
def Port.announce (x : Port) : Port :=
  { x with helloPending := true, session := .announced, receiver := .hunt }

/-- A break end (R122, R125): during the start-up interval only the line changes. -/
def State.breakEnds (s : State) (p : PortId) : State :=
  if (s.port p).lineInBreak then
    s.updPort p fun x =>
      let y := { x with lineInBreak := false }
      if s.startUp then y else y.announce
  else s

/-! ### QUERY_PORT -/

/-- The record of port `q` as QUERY_PORT reports it (R138). -/
def State.portView (s : State) (q : PortId) : PortView :=
  let x := s.port q
  { port := q, session := x.session, epoch := x.epoch, principal := x.principal,
    window := if x.session = .up then x.window.getD 0 else 0,
    inFlight := x.inFlight.length,
    owned := s.mailboxes.count fun m => decide (m.state ≠ .free ∧ m.owner = q),
    dormant := s.mailboxes.count fun m => decide (m.state = .dormant ∧ m.owner = q),
    badFrames := x.badFrames, droppedCommands := x.droppedCommands,
    lostReports := x.lostReports, strayAnswers := x.strayAnswers }

/-- QUERY_PORT (R138). -/
def State.queryPortOwn (s : State) (which : Byte) : State × ReplyState :=
  match portId which with
  | none => refuse s .range
  | some q => answer s (.port (s.portView q))

/-! ### The meanings -/

/-- ATTACH (R127 to R129). -/
def execAttach (p : PortId) (seq window enables : Byte) : State → Host.Outcome State Fault Refusal :=
  event fun s => s.takeCommand p Kind.attach seq fun t => t.attachOwn p window enables

/-- DETACH (R131). -/
def execDetach (p : PortId) (seq : Byte) : State → Host.Outcome State Fault Refusal :=
  event fun s => s.takeCommand p Kind.detach seq fun t => t.detachOwn p

/-- QUERY_PORT (R138). -/
def execQueryPort (p : PortId) (seq which : Byte) : State → Host.Outcome State Fault Refusal :=
  event fun s => s.takeCommand p Kind.queryPort seq fun t => t.queryPortOwn which

/-- BREAK_START (R122 to R124). -/
def execBreakStart (p : PortId) : State → Host.Outcome State Fault Refusal :=
  event fun s => s.breakStarts p

/-- BREAK_END (R122, R125). -/
def execBreakEnd (p : PortId) : State → Host.Outcome State Fault Refusal :=
  event fun s => s.breakEnds p

end Sys2Proof.Machine
end

