-- ==== Sys2Proof/Machine/Exchange.lean ====
section
/-! DEFINITION. The exchange as a whole (chapters 10 and 11): power-on and reset, the buffer test, RETEST,
CLEAR, CONFIGURE and QUERY_POOL. -/

namespace Sys2Proof.Machine

/-! ### Power-on and reset -/

/-- Power-on (R174, R188): every block takes its power-on values and the straps are sampled. The commands
that wait are the sender's and stay in the queue. -/
def State.powerOn (s : State) (psel : BitVec 3) (rate : BitVec 2) : State :=
  { State.powerOnValues psel rate with pending := s.pending }

/-- RESETn goes low (R175): nothing of what the part held survives, every TXD line is idle, and no event is
taken until the release. The discarded state stands at the power-on values with no principal (log 13). -/
def State.enterReset (s : State) : State :=
  { State.powerOnValues 7#3 0#2 with inReset := true, pending := s.pending }

/-! ### CONFIGURE and QUERY_POOL -/

/-- CONFIGURE after the principal check (R184, R185). -/
def State.configureOwn (s : State) (lowMark dormancy : Half) : State × ReplyState :=
  if lowMark.toNat ≤ Config.maxLowMark ∧ dormancy.toNat ≤ Config.maxDormancy then
    answer
      ({ s with lowMark := lowMark.toNat, dormancyLimit := dormancy.toNat } : State).evalPool
      (.configured lowMark.toNat dormancy.toNat)
  else refuse s .range

/-- The results of QUERY_POOL (R187). -/
def State.poolView (s : State) : PoolView :=
  { mode := s.mode, goodCount := s.goodCount, freeDescriptors := s.freeDescriptors,
    freeEntries := s.freeEntries, freeBuffers := s.freeBuffers,
    retiredBuffers := s.retiredBuffers, lowMark := s.lowMark, armed := s.poolArmed,
    dormancyLimit := s.dormancyLimit }

/-- QUERY_POOL (R187). -/
def State.queryPoolOwn (s : State) : State × ReplyState := answer s (.pool s.poolView)

/-! ### CLEAR -/

/-- Steps 1 and 4 of CLEAR at one port (R86, R105, R182): the in-flight list, the prepared offer and the
waiting reports go; a frame in transmission is sent whole. -/
def Port.clearTraffic (x : Port) : Port :=
  { x with inFlight := [], prepared := none, reports := [] }

/-- Step 2 of CLEAR at one buffer: an in-use buffer becomes free (R17). -/
def BufferSet.release (b : BufferSet) : BufferSet :=
  match b with
  | .inUse => .free
  | .free => .free
  | .retired => .retired

/-- Steps 1 to 4 of CLEAR (R182): offers, store, mailboxes and groups, report queues. -/
def State.clearContents (s : State) : State :=
  { s with
    ports := s.ports.map (·.clearTraffic)
    entries := Table.replicate 256 none
    descriptors := Table.replicate 128 none
    buffers := s.buffers.map (·.release)
    mailboxes := Table.replicate 32 Mailbox.blank
    groups := s.groups.map fun g => { g with members := [] } }

/-- Step 5 of CLEAR: pool-low arming is set to armed and evaluated (R20). -/
def State.rearmPool (s : State) : State := ({ s with poolArmed := true } : State).evalPool

/-- Step 6 of CLEAR at one mailbox, `x` being its record when the CLEAR was taken: the deferred close reply
of a CLOSING mailbox is completed OK with the close count it had reached (R44). -/
def State.completeClose (s : State) (m : MailboxId) (x : Mailbox) : State :=
  if x.state = .closing then
    match x.closeReply with
    | some (q, _) => s.updPort q (·.complete (.close m) (.closedMailbox m x.closeCount))
    | none => s
  else s

/-- CLEAR's effects, in the order of R182. -/
def State.clearAll (s : State) : State :=
  (List.finRange 32).foldl (fun t m => t.completeClose m (s.mbx m)) s.clearContents.rearmPool

/-- CLEAR after the principal check (R182). -/
def State.clearOwn (s : State) : State × ReplyState :=
  if s.mode = .testing then refuse s .testing else answer s.clearAll .none

/-! ### RETEST and the test end -/

/-- RETEST after the principal check (R178): a test begins and the reply is deferred. -/
def State.retestOwn (s : State) : State × ReplyState :=
  if s.mode = .testing then refuse s .testing
  else if s.anyLive then refuse s .wrongState
  else ({ s with mode := .testing }, .deferred .retest)

/-- The result of a test applied (R8, R177 steps 1 and 2): the buffers in `failed` retired, the others
free, the good count their number, and pool-low arming evaluated. -/
def State.applyTest (s : State) (failed : List BufferId) : State :=
  let buffers := Table.ofFn fun b => if b ∈ failed then BufferSet.retired else .free
  ({ s with buffers := buffers, goodCount := buffers.count (· = .free) } : State).evalPool

/-- The mode a test end reaches (R172, R177 step 3). -/
def modeReached (good : Nat) : Mode := if Config.enoughBuffers ≤ good then .running else .fault

/-- Every port announced whose line is not in break (R125). -/
def State.announceAll (s : State) : State :=
  s.allPorts fun x => if x.lineInBreak then x else x.announce

/-- The session of port `p` ended by a test fault, if it is UP (R139). -/
def State.endSessionAtFault (s : State) (p : PortId) : State :=
  if (s.port p).session = .up then s.endSession p .testFault else s

/-- The teardown of a RETEST that ends in FAULT (R139, R180): every session ended, every mailbox FREE, every
member list empty, and each port that is not DOWN announced afresh. -/
def State.faultTeardown (s : State) : State :=
  let t := (List.finRange 6).foldl (fun u p => u.endSessionAtFault p) s
  ({ t with
    mailboxes := Table.replicate 32 Mailbox.blank
    groups := t.groups.map fun g => { g with members := [] } } : State).allPorts fun x =>
      if x.session = .down then x
      else { x with helloPending := true, session := .announced }

/-- What follows a test end (R177 step 4). -/
def State.afterTest (s : State) (wasStartUp : Bool) : State :=
  if wasStartUp then s.announceAll
  else if s.mode = .fault then s.faultTeardown
  else s.allPorts (·.complete .retest (.retested s.goodCount))

/-- A test ends (R177). Without a test in progress there is none to end (R172). -/
def State.testEnds (s : State) (failed : List BufferId) : State :=
  if s.mode = .testing then
    let t := s.applyTest failed
    ({ t with mode := modeReached t.goodCount, startUp := false } : State).afterTest s.startUp
  else s

/-! ### The meanings -/

/-- POWER_ON (R174, R188): the one event a part held in reset takes. -/
def execPowerOn (psel : BitVec 3) (rate : BitVec 2) (s : State) :
    Host.Outcome State Fault Refusal := .next (s.powerOn psel rate)

/-- RESET_ASSERTED (R175). -/
def execResetAsserted (s : State) : Host.Outcome State Fault Refusal := .next s.enterReset

/-- CONFIGURE (R184). -/
def execConfigure (p : PortId) (seq : Byte) (lowMark dormancy : Half) :
    State → Host.Outcome State Fault Refusal :=
  event fun s => s.takeCommand p Kind.configure seq
    (ofPrincipal p fun t => t.configureOwn lowMark dormancy)

/-- QUERY_POOL (R187). -/
def execQueryPool (p : PortId) (seq : Byte) : State → Host.Outcome State Fault Refusal :=
  event fun s => s.takeCommand p Kind.queryPool seq fun t => t.queryPoolOwn

/-- CLEAR (R182). -/
def execClear (p : PortId) (seq : Byte) : State → Host.Outcome State Fault Refusal :=
  event fun s => s.takeCommand p Kind.clear seq (ofPrincipal p fun t => t.clearOwn)

/-- RETEST (R178). -/
def execRetest (p : PortId) (seq : Byte) : State → Host.Outcome State Fault Refusal :=
  event fun s => s.takeCommand p Kind.retest seq (ofPrincipal p fun t => t.retestOwn)

/-- TEST_END (R176, R177). -/
def execTestEnd (failed : List BufferId) : State → Host.Outcome State Fault Refusal :=
  event fun s => s.testEnds failed

end Sys2Proof.Machine
end

