-- ==== Sys2Proof/Machine/Groups.lean ====
section
/-! DEFINITION. The group commands (chapter 6). -/

namespace Sys2Proof.Machine

/-- The group result: the group as it stands after the command (R110). -/
def State.groupAnswer (s : State) (g : GroupId) : State × ReplyState :=
  answer s (.group g (s.grp g).policy (s.grp g).members)

/-- GROUP_DEFINE after the principal check (R111): an UNDEFINED group becomes DEFINED with an empty list; a
DEFINED one takes the policy and keeps its list. -/
def State.groupDefineOwn (s : State) (gid policy : Byte) : State × ReplyState :=
  match groupId gid, policyOf policy with
  | some g, some pol =>
    let t := s.updGrp g fun x =>
      match x.policy with
      | none => { policy := some pol, members := [] }
      | some _ => { x with policy := some pol }
    t.groupAnswer g
  | _, _ => refuse s .range

/-- GROUP_ADD after the principal check (R112, R113). -/
def State.groupAddOwn (s : State) (gid id : Byte) : State × ReplyState :=
  match groupId gid, mailboxId id with
  | some g, some m =>
    if (s.grp g).policy = none then refuse s .noSuch
    else if (s.mbx m).state = .free then refuse s .noSuch
    else if (s.mbx m).state = .closing then refuse s .closed
    else if m ∈ (s.grp g).members then refuse s .wrongState
    else if (s.grp g).members.length = Config.maxMembers then refuse s .full
    else (s.updGrp g fun x => { x with members := x.members ++ [m] }).groupAnswer g
  | _, _ => refuse s .range

/-- GROUP_REMOVE after the principal check (R114). -/
def State.groupRemoveOwn (s : State) (gid id : Byte) : State × ReplyState :=
  match groupId gid, mailboxId id with
  | some g, some m =>
    if (s.grp g).policy = none then refuse s .noSuch
    else if m ∈ (s.grp g).members then
      (s.updGrp g fun x => { x with members := x.members.filter fun y => decide (y ≠ m) }).groupAnswer
        g
    else refuse s .noSuch
  | _, _ => refuse s .range

/-- GROUP_DELETE after the principal check (R115). -/
def State.groupDeleteOwn (s : State) (gid : Byte) : State × ReplyState :=
  match groupId gid with
  | some g =>
    if (s.grp g).policy = none then refuse s .noSuch
    else (s.updGrp g fun _ => Group.undefined).groupAnswer g
  | none => refuse s .range

/-! ### The meanings -/

/-- GROUP_DEFINE (R111). -/
def execGroupDefine (p : PortId) (seq gid policy : Byte) : State → Host.Outcome State Fault Refusal :=
  event fun s => s.takeCommand p Kind.groupDefine seq
    (ofPrincipal p fun t => t.groupDefineOwn gid policy)

/-- GROUP_ADD (R112, R113). -/
def execGroupAdd (p : PortId) (seq gid id : Byte) : State → Host.Outcome State Fault Refusal :=
  event fun s => s.takeCommand p Kind.groupAdd seq (ofPrincipal p fun t => t.groupAddOwn gid id)

/-- GROUP_REMOVE (R114). -/
def execGroupRemove (p : PortId) (seq gid id : Byte) : State → Host.Outcome State Fault Refusal :=
  event fun s => s.takeCommand p Kind.groupRemove seq
    (ofPrincipal p fun t => t.groupRemoveOwn gid id)

/-- GROUP_DELETE (R115). -/
def execGroupDelete (p : PortId) (seq gid : Byte) : State → Host.Outcome State Fault Refusal :=
  event fun s => s.takeCommand p Kind.groupDelete seq (ofPrincipal p fun t => t.groupDeleteOwn gid)

end Sys2Proof.Machine
end

