-- ==== Sys2Proof/Machine/LinkEvents.lean ====
section
/-! DEFINITION. The meanings of the link's own events (chapter 8): discarded and malformed frames, the
arbiter, the end of a frame and the end of the idle after a stopped frame. -/

namespace Sys2Proof.Machine

/-- FRAME_DISCARD (R145). -/
def execFrameDiscard (p : PortId) : State → Host.Outcome State Fault Refusal :=
  event fun s => s.discardFrame p

/-- GAP_EXPIRY (R146). -/
def execGapExpiry (p : PortId) : State → Host.Outcome State Fault Refusal :=
  event fun s => s.gapExpired p

/-- MALFORMED (R147). -/
def execMalformed (p : PortId) (kind seq : Byte) : State → Host.Outcome State Fault Refusal :=
  event fun s => s.takeMalformed p kind seq

/-- ARBITER_BEGIN_FRAME (R159). -/
def execArbiterBeginFrame (p : PortId) : State → Host.Outcome State Fault Refusal :=
  event fun s => s.arbitrate p

/-- FRAME_LAST_BYTE_SENT (R160). -/
def execFrameLastByteSent (p : PortId) : State → Host.Outcome State Fault Refusal :=
  event fun s => s.lastByteSent p

/-- STOPPED_FRAME_IDLE_END (R124). -/
def execStoppedFrameIdleEnd (p : PortId) : State → Host.Outcome State Fault Refusal :=
  event fun s => s.stoppedIdleEnded p

end Sys2Proof.Machine
end

