-- ==== Sys2Proof/Machine/Mailboxes.lean ====
section
/-! DEFINITION. The mailbox commands (chapter 2): OPEN, CLOSE, FORCE_CLOSE, HOLD, RESUME, RECLAIM,
QUERY_MAILBOX, and the dormancy expiry. -/

namespace Sys2Proof.Machine

/-! ### OPEN -/

/-- The record of a mailbox just opened (R28). -/
def Mailbox.opened (p : PortId) (depth : Byte) (ackWindow : Half) (retry watermark : Byte) : Mailbox :=
  { Mailbox.blank with
    state := .opened, owner := p, held := false, depth := depth.toNat,
    ackWindow := ackWindow.toNat, retryLimit := retry.toNat, watermark := watermark.toNat,
    armed := true, queue := [] }

/-- The FREE mailbox of lowest id (R28). -/
def State.lowestFree (s : State) : Option MailboxId := s.mailboxes.first (·.state = .free)

/-- Mailbox `m` opened, with the reply of R28. -/
def State.openAt (s : State) (p : PortId) (m : MailboxId) (depth : Byte) (ackWindow : Half)
    (retry watermark : Byte) : State × ReplyState :=
  answer (s.updMbx m fun _ => Mailbox.opened p depth ackWindow retry watermark)
    (.openedMailbox m depth.toNat ackWindow.toNat retry.toNat watermark.toNat)

/-- OPEN's own checks and effect (R27, R28): id 255 asks for the lowest FREE mailbox. -/
def State.openOwn (s : State) (p : PortId) (id depth : Byte) (ackWindow : Half)
    (retry watermark : Byte) : State × ReplyState :=
  if openSettingsOk depth ackWindow retry watermark then
    match mailboxId id with
    | some m =>
      if (s.mbx m).state = .free then s.openAt p m depth ackWindow retry watermark
      else refuse s .wrongState
    | none =>
      if id = 255#8 then
        match s.lowestFree with
        | some m => s.openAt p m depth ackWindow retry watermark
        | none => refuse s .noMailbox
      else refuse s .range
  else refuse s .range

/-! ### Closing -/

/-- A CLOSE or FORCE_CLOSE of an OPEN mailbox (R30): it becomes CLOSING and leaves its groups, its QUEUED
entries are PURGED, and it is FREE at once or its reply is deferred. -/
def State.closeOpen (s : State) (p : PortId) (seq : Byte) (m : MailboxId) : State × ReplyState :=
  let t := (s.updMbx m fun x => { x with state := .closing, closeCount := 0 }).leaveGroups m
  let u := t.resolveAll (t.queuedIn m) .purged
  if (u.mbx m).queue = [] then
    answer (u.updMbx m fun _ => Mailbox.blank) (.closedMailbox m (u.mbx m).closeCount)
  else (u.updMbx m fun x => { x with closeReply := some (p, seq) }, .deferred (.close m))

/-- The QUEUED entries of a DORMANT mailbox PURGED, its groups left and the mailbox FREE (R31, R43). -/
def State.freeDormant (s : State) (m : MailboxId) : State :=
  ((s.resolveAll (s.queuedIn m) .purged).leaveGroups m).updMbx m fun _ => Mailbox.blank

/-- A CLOSE or FORCE_CLOSE of a DORMANT mailbox (R31); the close count is the number of entries purged. -/
def State.closeDormant (s : State) (m : MailboxId) : State × ReplyState :=
  answer (s.freeDormant m) (.closedMailbox m (s.queuedIn m).length)

/-- The close of a mailbox that is OPEN or DORMANT (R30, R31); a CLOSING one is refused (R29, R35). -/
def State.closeAt (s : State) (p : PortId) (seq : Byte) (m : MailboxId) : State × ReplyState :=
  match (s.mbx m).state with
  | .opened => s.closeOpen p seq m
  | .dormant => s.closeDormant m
  | .closing => refuse s .wrongState
  | .free => refuse s .noSuch

/-- CLOSE's own checks and effect (R29). -/
def State.closeOwn (s : State) (p : PortId) (seq id : Byte) : State × ReplyState :=
  match mailboxId id with
  | none => refuse s .range
  | some m =>
    if (s.mbx m).state = .free then refuse s .noSuch
    else if (s.mbx m).owner ≠ p then refuse s .notOwner
    else s.closeAt p seq m

/-- MAILBOX_CLOSED at an owner that is not the issuing principal (R36). -/
def State.tellOwner (s : State) (p : PortId) (m : MailboxId) : State :=
  if (s.mbx m).owner = p then s else s.raise .mailboxClosed (s.mbx m).owner

/-- FORCE_CLOSE's own checks after the principal check, and its effect (R35, R36). -/
def State.forceCloseOwn (s : State) (p : PortId) (seq id : Byte) : State × ReplyState :=
  match mailboxId id with
  | none => refuse s .range
  | some m =>
    match (s.mbx m).state with
    | .free => refuse s .noSuch
    | .closing => refuse s .wrongState
    | .opened | .dormant => (s.tellOwner p m).closeAt p seq m

/-! ### HOLD, RESUME, RECLAIM -/

/-- The checks that HOLD and RESUME share, and the held flag set (R37, R38). -/
def State.setHeldOwn (s : State) (p : PortId) (id : Byte) (held : Bool) : State × ReplyState :=
  match mailboxId id with
  | none => refuse s .range
  | some m =>
    if (s.mbx m).state = .free then refuse s .noSuch
    else if (s.mbx m).owner ≠ p then refuse s .notOwner
    else if (s.mbx m).state = .opened then
      answer (s.updMbx m fun x => { x with held := held })
        (.queueLength m (s.mbx m).queue.length)
    else refuse s .wrongState

/-- RECLAIM's own checks and effect (R39). -/
def State.reclaimOwn (s : State) (p : PortId) (id : Byte) : State × ReplyState :=
  match mailboxId id with
  | none => refuse s .range
  | some m =>
    if (s.mbx m).state = .free then refuse s .noSuch
    else if (s.mbx m).owner ≠ p ∧ (s.port p).principal = false then refuse s .notOwner
    else if (s.mbx m).state = .dormant then
      answer
        (s.updMbx m fun x => { x with state := .opened, dormancyDeadline := none, owner := p })
        (.reclaimed m (s.mbx m).queue.length (s.mbx m).held)
    else refuse s .wrongState

/-! ### QUERY_MAILBOX -/

/-- Whole seconds until a deadline, rounded up; 0 with no deadline (R40 note 2). -/
def secondsLeft (now : Nat) (deadline : Option Nat) : Nat :=
  match deadline with
  | some t => (t - now + 999) / 1000
  | none => 0

/-- The record of mailbox `m` as QUERY_MAILBOX reports it (R40); for a FREE mailbox every result other than
the state is 0 or no (R40 note 1). -/
def State.mailboxView (s : State) (m : MailboxId) : MailboxView :=
  let x := s.mbx m
  if x.state = .free then
    { id := 0, state := .free, owner := 0, held := false, depth := 0, ackWindow := 0,
      retryLimit := 0, watermark := 0, armed := false, length := 0, offered := 0,
      dormancyRemaining := 0, closePending := false }
  else
    { id := m, state := x.state, owner := x.owner, held := x.held, depth := x.depth,
      ackWindow := x.ackWindow, retryLimit := x.retryLimit, watermark := x.watermark,
      armed := x.armed, length := x.queue.length,
      offered := x.queue.countP fun e => !s.isQueued e,
      dormancyRemaining := secondsLeft s.now x.dormancyDeadline,
      closePending := x.closeReply.isSome }

/-- QUERY_MAILBOX (R40). -/
def State.queryMailboxOwn (s : State) (id : Byte) : State × ReplyState :=
  match mailboxId id with
  | none => refuse s .range
  | some m => answer s (.mailbox (s.mailboxView m))

/-! ### Dormancy expiry -/

/-- The dormancy deadline of a DORMANT mailbox expires (R43). A mailbox without one has no expiry. -/
def State.dormancyExpires (s : State) (m : MailboxId) : State :=
  match (s.mbx m).state, (s.mbx m).dormancyDeadline with
  | .dormant, some t => (s.reach t).freeDormant m
  | _, _ => s

/-! ### The meanings -/

/-- OPEN (R27, R28). -/
def execOpen (p : PortId) (seq id depth : Byte) (ackWindow : Half) (retry watermark : Byte) :
    State → Host.Outcome State Fault Refusal :=
  event fun s => s.takeCommand p Kind.openMailbox seq fun t =>
    t.openOwn p id depth ackWindow retry watermark

/-- CLOSE (R29 to R31). -/
def execClose (p : PortId) (seq id : Byte) : State → Host.Outcome State Fault Refusal :=
  event fun s => s.takeCommand p Kind.close seq fun t => t.closeOwn p seq id

/-- HOLD (R37). -/
def execHold (p : PortId) (seq id : Byte) : State → Host.Outcome State Fault Refusal :=
  event fun s => s.takeCommand p Kind.hold seq fun t => t.setHeldOwn p id true

/-- RESUME (R38). -/
def execResume (p : PortId) (seq id : Byte) : State → Host.Outcome State Fault Refusal :=
  event fun s => s.takeCommand p Kind.resume seq fun t => t.setHeldOwn p id false

/-- RECLAIM (R39). -/
def execReclaim (p : PortId) (seq id : Byte) : State → Host.Outcome State Fault Refusal :=
  event fun s => s.takeCommand p Kind.reclaim seq fun t => t.reclaimOwn p id

/-- QUERY_MAILBOX (R40). -/
def execQueryMailbox (p : PortId) (seq id : Byte) : State → Host.Outcome State Fault Refusal :=
  event fun s => s.takeCommand p Kind.queryMailbox seq fun t => t.queryMailboxOwn id

/-- FORCE_CLOSE (R35, R36). -/
def execForceClose (p : PortId) (seq id : Byte) : State → Host.Outcome State Fault Refusal :=
  event fun s => s.takeCommand p Kind.forceClose seq
    (ofPrincipal p fun t => t.forceCloseOwn p seq id)

/-- DORMANCY_EXPIRY (R43). -/
def execDormancyExpiry (m : MailboxId) : State → Host.Outcome State Fault Refusal :=
  event fun s => s.dormancyExpires m

end Sys2Proof.Machine
end

