-- ==== Sys2Proof/Machine/Offers.lean ====
section
/-! DEFINITION. The delivery scheduler (chapter 4): selection, the answers ACCEPT and DECLINE, and the ack
deadline. -/

namespace Sys2Proof.Machine

/-! ### Selection -/

/-- The QUEUED entries of every OPEN, not-held mailbox of the port, mailboxes in ascending order of id and
each queue in its order (R66 condition 4, R68). -/
def State.candidates (s : State) (p : PortId) : List EntryId :=
  (List.finRange 32).flatMap fun m =>
    let x := s.mbx m
    if x.owner = p ∧ x.state = .opened ∧ x.held = false then s.queuedIn m else []

/-- The better of the choice so far and one more candidate: a later candidate wins only by a higher class
or, within a class, a lower arrival sequence (R68). -/
def State.better (s : State) (best : Option EntryId) (e : EntryId) : Option EntryId :=
  match best with
  | none => some e
  | some b => if keyAhead (s.key e) (s.key b) then some e else some b

/-- The candidate that the three keys of R68 choose. -/
def State.bestCandidate (s : State) (p : PortId) : Option EntryId :=
  (s.candidates p).foldl s.better none

/-- The offer ids in flight at the port (R70). -/
def State.idsInFlight (s : State) (p : PortId) : List Byte :=
  (s.port p).inFlight.filterMap fun e => (s.entry e).bind fun en => en.offer.map (·.id)

/-- The first id from `next` upward, 255 followed by 0, that is not in `ids` (R70). The list of a port is
at most 4 long, so one is always found. -/
def freshOfferId (ids : List Byte) (next : Byte) : Byte :=
  (((List.range 256).map fun k => next + BitVec.ofNat 8 k).find? fun i =>
    decide (i ∉ ids)).getD next

/-- The contents of an entry's OFFER frame (R69). -/
def State.offerFrame (s : State) (en : Entry) (d : Descriptor) (id : Byte) : OfferFrame :=
  { id := id, mailbox := en.mailbox, senderPort := d.senderPort, cls := d.cls,
    attempt := en.attempts + 1, tag := d.tag, sequence := d.sequence,
    payload := s.mem.readPayload d.buffers d.length }

/-- What a selection does to the chosen entry (R69). -/
def State.offerEntry (s : State) (p : PortId) (e : EntryId) : State :=
  match s.entry e with
  | none => s
  | some en =>
    match s.desc en.descriptor with
    | none => s
    | some d =>
      let id := freshOfferId (s.idsInFlight p) (s.port p).nextOfferId
      (s.setEntry e (some
        { en with
          attempts := en.attempts + 1
          offer := some { id := id, phase := .sending } })).updPort p fun x =>
        { x with
          inFlight := x.inFlight ++ [e]
          nextOfferId := id + 1#8
          prepared := some { entry := e, frame := s.offerFrame en d id } }

/-- Conditions 1 to 3 of R66: the port is UP, its list is shorter than its window, and no OFFER frame waits
or is being transmitted (R71, R86). -/
def State.mayOffer (s : State) (p : PortId) : Bool :=
  let x := s.port p
  decide (x.session = .up ∧ x.inFlight.length < x.window.getD 0 ∧ x.prepared = none) &&
    !x.tx.isOffer

/-- A selection (R66, R68, R69); while a condition fails none is made. -/
def State.select (s : State) (p : PortId) : State :=
  if s.mayOffer p then
    match s.bestCandidate p with
    | some e => s.offerEntry p e
    | none => s
  else s

/-! ### Answers -/

/-- The entry of the port's in-flight list that carries the offer id (R76). -/
def State.findOffer (s : State) (p : PortId) (id : Byte) : Option EntryId :=
  (s.port p).inFlight.find? fun e =>
    match s.entry e with
    | some en => decide (en.offer.map (·.id) = some id)
    | none => false

/-- The ack deadline of an entry in phase AWAITING (R73). -/
def State.ackDeadline (s : State) (e : EntryId) : Option Nat :=
  match s.entry e with
  | some { offer := some { phase := .awaiting t, .. }, .. } => some t
  | _ => none

/-- The entry that an answer naming the id acts on, with its ack deadline: it is in the list and AWAITING
(R76). -/
def State.findAwaiting (s : State) (p : PortId) (id : Byte) : Option (EntryId × Nat) :=
  (s.findOffer p id).bind fun e => (s.ackDeadline e).map fun t => (e, t)

/-- A stray answer (R79). -/
def State.stray (s : State) (p : PortId) : State :=
  s.updPort p fun x => { x with strayAnswers := bump x.strayAnswers }

/-- An answer at a port (R75, R76): ignored while the port is DOWN, stray while it is ANNOUNCED; on an UP
port `act` runs on the AWAITING entry it names. -/
def State.takeAnswer (s : State) (p : PortId) (id : Byte) (act : EntryId → State) : State :=
  match (s.port p).session with
  | .down => s
  | .announced => s.stray p
  | .up =>
    match s.findAwaiting p id with
    | some (e, _) => act e
    | none => s.stray p

/-- ACCEPT (R77): the entry is resolved DELIVERED. -/
def State.accept (s : State) (p : PortId) (id : Byte) : State :=
  s.takeAnswer p id fun e => s.thenClose e (·.resolve e .delivered)

/-- DECLINE (R78): requeue no resolves DECLINED, requeue yes goes to the non-accepting table, and a value
that is neither is stray. -/
def State.decline (s : State) (p : PortId) (id requeue : Byte) : State :=
  s.takeAnswer p id fun e =>
    match yesNo requeue with
    | some false => s.thenClose e (·.resolve e .declined)
    | some true => s.thenClose e (·.nonAccepting e true)
    | none => s.stray p

/-- The ack deadline of the port's AWAITING offer expires (R80). A deadline that does not exist does not
expire (R73). -/
def State.ackExpires (s : State) (p : PortId) (id : Byte) : State :=
  match s.findAwaiting p id with
  | some (e, t) => (s.reach t).thenClose e (·.nonAccepting e true)
  | none => s

/-! ### The meanings -/

/-- SELECTION (R66 to R70). -/
def execSelection (p : PortId) : State → Host.Outcome State Fault Refusal :=
  event fun s => s.select p

/-- ACCEPT (R75 to R77). -/
def execAccept (p : PortId) (offer : Byte) : State → Host.Outcome State Fault Refusal :=
  event fun s => s.accept p offer

/-- DECLINE (R75, R76, R78). -/
def execDecline (p : PortId) (offer requeue : Byte) : State → Host.Outcome State Fault Refusal :=
  event fun s => s.decline p offer requeue

/-- ACK_DEADLINE_EXPIRY (R80). -/
def execAckDeadlineExpiry (p : PortId) (offer : Byte) : State → Host.Outcome State Fault Refusal :=
  event fun s => s.ackExpires p offer

end Sys2Proof.Machine
end

