-- ==== Sys2Proof/Machine/Sending.lean ====
section
/-! DEFINITION. SEND, CANCEL and the lifetime expiry (chapters 3 and 5.2). -/

namespace Sys2Proof.Machine

/-! ### The checks of SEND -/

/-- A mailbox is full when its queue length equals its depth limit (R51). -/
def State.isFull (s : State) (m : MailboxId) : Bool :=
  decide ((s.mbx m).queue.length = (s.mbx m).depth)

/-- Checks 4 and 5 at one mailbox (R49, R51): the targets and the skipped count, or a status. -/
def State.unicastTargets (s : State) (m : MailboxId) : Except Status (List MailboxId × Nat) :=
  match (s.mbx m).state with
  | .free => .error .noSuch
  | .closing => .error .closed
  | .opened | .dormant => if s.isFull m then .error .full else .ok ([m], 0)

/-- Checks 4 and 5 at a group (R50, R52, R53): under STRICT every member or none, under LENIENT the
members with room, in member-list order. -/
def State.groupTargets (s : State) (g : GroupId) : Except Status (List MailboxId × Nat) :=
  match (s.grp g).policy with
  | none => .error .noSuch
  | some policy =>
    let members := (s.grp g).members
    let roomy := members.filter fun m => !s.isFull m
    if members = [] then .error .noRoute
    else
      match policy with
      | .strict => if roomy.length = members.length then .ok (members, 0) else .error .full
      | .lenient =>
        if roomy = [] then .error .full else .ok (roomy, members.length - roomy.length)

/-- Checks 4 and 5 (R46). -/
def State.targets (s : State) (d : Destination) : Except Status (List MailboxId × Nat) :=
  match d with
  | .unicast m => s.unicastTargets m
  | .fanOut g => s.groupTargets g

/-- Check 6, the store's allocation check (R10, R54): the first shortfall. -/
def State.shortfall (s : State) (targets bytes : Nat) : Option Status :=
  if s.freeDescriptors = 0 then some .noDescriptor
  else if s.freeEntries < targets then some .noEntry
  else if s.freeBuffers < buffersFor bytes then some .noBuffer
  else none

/-- Checks 3 to 6 in their order (R46): the targets and the skipped count, or the status of the first that
fails. -/
def State.admission (s : State) (p : PortId) (f : SendFields) : Except Status (List MailboxId × Nat) :=
  if (s.findTag p (s.port p).epoch f.tag).isSome then .error .dupTag
  else
    match s.targets f.dest with
    | .error st => .error st
    | .ok (ts, skipped) =>
      match s.shortfall ts.length f.payload.length with
      | some st => .error st
      | none => .ok (ts, skipped)

/-- SEND's own checks and effect (R46, R47, R55, R56); `fields` is the result of the range check. -/
def State.sendOwn (s : State) (p : PortId) (fields : Option SendFields) : State × ReplyState :=
  if s.mode = .testing then refuse s .testing
  else
    match fields with
    | none => refuse s .range
    | some f =>
      match s.admission p f with
      | .error st => refuse s st
      | .ok (ts, skipped) =>
        answer (s.allocate p f ts skipped) (.sent (s.arrival + 1#32) ts.length skipped)

/-! ### CANCEL -/

/-- CANCEL on the message it found (R59 to R61): its QUEUED entries are resolved CANCELLED, and if offers
remain cancel requested is set. -/
def State.cancelAt (s : State) (i : DescId) (sequence : BitVec 32) : State × ReplyState :=
  let es := s.queuedOf i
  let t := s.resolveAll es .cancelled
  match t.desc i with
  | none => answer t (.cancelled sequence es.length)
  | some d =>
    (t.setDesc i (some { d with cancelRequested := true }),
      .ready .partialCancel (.partlyCancelled sequence es.length d.refCount))

/-- CANCEL's own check and effect (R58, R59). -/
def State.cancelOwn (s : State) (p : PortId) (tag : Half) : State × ReplyState :=
  match s.findTag p (s.port p).epoch tag with
  | none => refuse s .noTag
  | some i =>
    match s.desc i with
    | none => refuse s .noTag
    | some d => s.cancelAt i d.sequence

/-! ### Lifetime expiry -/

/-- A message's lifetime deadline expires (R93): its QUEUED entries are resolved EXPIRED in creation order,
the deadline ceases to exist, and if offers remain the expired flag is set. A message without a deadline
has no expiry (R92). -/
def State.lifetimeExpires (s : State) (i : DescId) : State :=
  match s.desc i with
  | none => s
  | some d =>
    match d.deadline with
    | none => s
    | some t =>
      ((s.reach t).resolveAll (s.queuedOf i) .expired).updDesc i fun x =>
        { x with deadline := none, expired := true }

/-! ### The meanings -/

/-- SEND (R45 to R57). A body of more than 240 payload bytes is no SEND: it is MALFORMED (R151). -/
def execSend (p : PortId) (seq dest cls report : Byte) (tag lifetime : Half) (declared : Byte)
    (payload : List Byte) : State → Host.Outcome State Fault Refusal :=
  event fun s =>
    if payload.length ≤ Config.maxPayload then
      s.takeCommand p Kind.send seq fun t =>
        t.sendOwn p (sendFields dest cls report tag lifetime declared payload)
    else s.takeMalformed p Kind.send seq

/-- CANCEL (R58 to R62). -/
def execCancel (p : PortId) (seq : Byte) (tag : Half) : State → Host.Outcome State Fault Refusal :=
  event fun s => s.takeCommand p Kind.cancel seq fun t => t.cancelOwn p tag

/-- LIFETIME_EXPIRY (R93). -/
def execLifetimeExpiry (d : DescId) : State → Host.Outcome State Fault Refusal :=
  event fun s => s.lifetimeExpires d

end Sys2Proof.Machine
end

