-- ==== Sys2Proof/Machine/Reception.lean ====
section
/-! DEFINITION. The receiver of a port, byte by byte (R144), and what the last byte of a good frame brings
about in the same act: the frame is classified (R147) and taken as the row it is. -/

namespace Sys2Proof.Machine

/-- What a byte taken leads to (R144): the receiver goes on, the frame is discarded (R145), or it is good
and is classified (R147). -/
inductive Reception where
  | goOn (r : Receiver)
  | discard
  | good (kind seq : Byte) (body : List Byte)
  deriving DecidableEq, Repr

/-- The table of R144. The CHECK is compared when its second byte is taken (R143, R145). -/
def Receiver.take (r : Receiver) (b : Byte) : Reception :=
  match r with
  | .hunt => .goOn (if b = Config.sync then .length else .hunt)
  | .length => if 2 ≤ b.toNat ∧ b.toNat ≤ 253 then .goOn (.body b.toNat [b]) else .discard
  | .body toCome stored =>
    if toCome ≤ 1 then .goOn (.check (stored ++ [b]) none)
    else .goOn (.body (toCome - 1) (stored ++ [b]))
  | .check stored none => .goOn (.check stored (some b))
  | .check stored (some hi) =>
    if crc stored = half hi b then
      match stored with
      | _ :: kind :: seq :: content => .good kind seq content
      | _ => .discard
    else .discard

/-- The meaning of a good frame's row (R147 steps 1 to 4). A row that is no frame of a host does nothing
here: no good frame is classified as one. -/
def deliver (i : Instr) : State → Host.Outcome State Fault Refusal :=
  match i with
  | .attach p seq w e => execAttach p seq w e
  | .detach p seq => execDetach p seq
  | .openMailbox p seq id depth win retry mark => execOpen p seq id depth win retry mark
  | .close p seq id => execClose p seq id
  | .hold p seq id => execHold p seq id
  | .resume p seq id => execResume p seq id
  | .reclaim p seq id => execReclaim p seq id
  | .queryMailbox p seq id => execQueryMailbox p seq id
  | .send p seq dest cls rep tag life len payload =>
      execSend p seq dest cls rep tag life len payload
  | .cancel p seq tag => execCancel p seq tag
  | .setEvents p seq e => execSetEvents p seq e
  | .readEvents p seq => execReadEvents p seq
  | .queryPool p seq => execQueryPool p seq
  | .queryPort p seq w => execQueryPort p seq w
  | .configure p seq m d => execConfigure p seq m d
  | .groupDefine p seq g pol => execGroupDefine p seq g pol
  | .groupAdd p seq g m => execGroupAdd p seq g m
  | .groupRemove p seq g m => execGroupRemove p seq g m
  | .groupDelete p seq g => execGroupDelete p seq g
  | .forceClose p seq id => execForceClose p seq id
  | .clear p seq => execClear p seq
  | .retest p seq => execRetest p seq
  | .accept p offer => execAccept p offer
  | .decline p offer requeue => execDecline p offer requeue
  | .malformed p kind seq => execMalformed p kind seq
  | .selection _ | .ackDeadlineExpiry _ _ | .lifetimeExpiry _ | .dormancyExpiry _ | .breakStart _
  | .breakEnd _ | .frameDiscard _ | .gapExpiry _ | .arbiterBeginFrame _ | .frameLastByteSent _
  | .stoppedFrameIdleEnd _ | .powerOn _ _ | .resetAsserted | .testEnd _ | .byteTaken _ _ => .next

/-- The receiver of port `p` put in a state. -/
def State.setReceiver (s : State) (p : PortId) (r : Receiver) : State :=
  s.updPort p fun x => { x with receiver := r }

/-- BYTE_TAKEN (R141, R144, R145, R147): a DOWN port's receiver stays in HUNT and ignores every byte. -/
def execByteTaken (p : PortId) (b : Byte) (s : State) : Host.Outcome State Fault Refusal :=
  if s.inReset ∨ (s.port p).session = .down then .next s
  else
    match (s.port p).receiver.take b with
    | .goOn r => .next (s.setReceiver p r)
    | .discard => .next (s.discardFrame p)
    | .good kind seq body => deliver (decodeFrame p kind seq body) (s.setReceiver p .hunt)

end Sys2Proof.Machine
end

