-- ==== Sys2Proof/Machine/Dispatch.lean ====
section
/-! DEFINITION. One arm for each command: the meaning that `exec` gives it. -/

namespace Sys2Proof.Machine

/-- The effect of a command on everything but the queue. -/
def exec (i : Instr) (s : State) : Host.Outcome State Fault Refusal :=
  match i with
  | .attach p seq window enables => Sys2Proof.Machine.execAttach p seq window enables s
  | .detach p seq => Sys2Proof.Machine.execDetach p seq s
  | .openMailbox p seq id depth ackWindow retry watermark => Sys2Proof.Machine.execOpen p seq id depth ackWindow retry watermark s
  | .close p seq id => Sys2Proof.Machine.execClose p seq id s
  | .hold p seq id => Sys2Proof.Machine.execHold p seq id s
  | .resume p seq id => Sys2Proof.Machine.execResume p seq id s
  | .reclaim p seq id => Sys2Proof.Machine.execReclaim p seq id s
  | .queryMailbox p seq id => Sys2Proof.Machine.execQueryMailbox p seq id s
  | .send p seq dest cls report tag lifetime declared payload => Sys2Proof.Machine.execSend p seq dest cls report tag lifetime declared payload s
  | .cancel p seq tag => Sys2Proof.Machine.execCancel p seq tag s
  | .setEvents p seq enables => Sys2Proof.Machine.execSetEvents p seq enables s
  | .readEvents p seq => Sys2Proof.Machine.execReadEvents p seq s
  | .queryPool p seq => Sys2Proof.Machine.execQueryPool p seq s
  | .queryPort p seq which => Sys2Proof.Machine.execQueryPort p seq which s
  | .configure p seq lowMark dormancy => Sys2Proof.Machine.execConfigure p seq lowMark dormancy s
  | .groupDefine p seq gid policy => Sys2Proof.Machine.execGroupDefine p seq gid policy s
  | .groupAdd p seq gid id => Sys2Proof.Machine.execGroupAdd p seq gid id s
  | .groupRemove p seq gid id => Sys2Proof.Machine.execGroupRemove p seq gid id s
  | .groupDelete p seq gid => Sys2Proof.Machine.execGroupDelete p seq gid s
  | .forceClose p seq id => Sys2Proof.Machine.execForceClose p seq id s
  | .clear p seq => Sys2Proof.Machine.execClear p seq s
  | .retest p seq => Sys2Proof.Machine.execRetest p seq s
  | .accept p offer => Sys2Proof.Machine.execAccept p offer s
  | .decline p offer requeue => Sys2Proof.Machine.execDecline p offer requeue s
  | .selection p => Sys2Proof.Machine.execSelection p s
  | .ackDeadlineExpiry p offer => Sys2Proof.Machine.execAckDeadlineExpiry p offer s
  | .lifetimeExpiry d => Sys2Proof.Machine.execLifetimeExpiry d s
  | .dormancyExpiry m => Sys2Proof.Machine.execDormancyExpiry m s
  | .breakStart p => Sys2Proof.Machine.execBreakStart p s
  | .breakEnd p => Sys2Proof.Machine.execBreakEnd p s
  | .frameDiscard p => Sys2Proof.Machine.execFrameDiscard p s
  | .gapExpiry p => Sys2Proof.Machine.execGapExpiry p s
  | .malformed p kind seq => Sys2Proof.Machine.execMalformed p kind seq s
  | .arbiterBeginFrame p => Sys2Proof.Machine.execArbiterBeginFrame p s
  | .frameLastByteSent p => Sys2Proof.Machine.execFrameLastByteSent p s
  | .stoppedFrameIdleEnd p => Sys2Proof.Machine.execStoppedFrameIdleEnd p s
  | .powerOn psel rate => Sys2Proof.Machine.execPowerOn psel rate s
  | .resetAsserted => Sys2Proof.Machine.execResetAsserted s
  | .testEnd failed => Sys2Proof.Machine.execTestEnd failed s
  | .byteTaken p b => Sys2Proof.Machine.execByteTaken p b s

end Sys2Proof.Machine
end

