-- ==== Sys2Proof/Machine/Step.lean ====
section
/-! DEFINITION. One step of the block: the command at the front of the queue is taken, whole and
indivisible; with no command waiting the 1 ms time base advances (DESIGN CHOICE, log 3). -/

namespace Sys2Proof.Machine

/-- One advance of the time base; a part held in reset takes no event (R175, log 3). -/
def State.tick (s : State) : State := if s.inReset then s else { s with now := s.now + 1 }

/-- One step. -/
def step (s : State) : Host.Outcome State Fault Refusal :=
  match s.pending with
  | [] => .next s.tick
  | c :: rest => exec c { s with pending := rest }

/-- The state with the command that a table word spells put at the front of the queue; the table spells
none (log 25), so the state is unchanged. -/
def State.withFetchWord (s : State) (nbits w : Nat) : State :=
  match decodeTableWord nbits w with
  | some c => { s with pending := c :: s.pending }
  | none => s

end Sys2Proof.Machine
end

