-- ==== Sys2Proof/Machine/Line.lean ====
section
/-! DEFINITION. The lines of a port below the byte: the character that carries a byte (R140), TXD, which sends
the frame on the line character by character and stops after the one under way (R160), and the receiver of
RXD, which assembles the bits of a character and takes the byte at its stop bit (R141). A level stands for one
bit time of the line (log 22). -/

namespace Sys2Proof.Machine

/-! ### Characters (R140) -/

/-- The data bits of a byte, the least significant first (R140); high is `true`. -/
def dataBits (b : Byte) : List Bool := (List.range 8).map b.getLsbD

/-- The character of a byte (R140): a low start bit, the data bits, a high stop bit, no parity. -/
def character (b : Byte) : List Bool := false :: (dataBits b ++ [true])

/-- The byte whose data bits were sampled, the first sampled the least significant (R140, R141). -/
def byteOfBits (bits : List Bool) : Byte :=
  bits.foldr (fun level b => (b <<< 1) ||| byteOfBool level) 0#8

/-! ### TXD (R140, R160) -/

/-- The levels of a port's TXD still to come, one for each bit time: what is left of the character under way,
then the characters of the bytes not begun, back to back (R140). After a stop no byte is left to begin, so the
current byte is the last (R160). -/
def State.txLevels (s : State) (p : PortId) : List Bool :=
  (s.port p).txd.rest ++ (s.txLine p).flatMap character

/-- The level of a port's TXD `k` bit times from now: high, the idle level, where no bit is left to send
(R140, R175). -/
def State.txLevel (s : State) (p : PortId) (k : Nat) : Bool := (s.txLevels p).getD k true

/-- One bit time of TXD, `bytes` being those not begun: the next bit of the character under way has been sent,
or the start bit of the next byte's, which stands directly after the previous stop bit (R140). -/
def LineTransmitter.pass (r : LineTransmitter) (bytes : List Byte) : LineTransmitter :=
  match r.rest, bytes with
  | _ :: rest, _ => { r with rest := rest }
  | [], b :: _ => { begun := r.begun + 1, rest := dataBits b ++ [true] }
  | [], [] => r

/-- One bit time of a port's TXD, in which `txLevel p 0` is sent. With the stop bit of the frame's last
character the last byte has been sent, and its act is FRAME_LAST_BYTE_SENT (R160); a stopped frame has no such
act. While RESETn is low nothing moves (R175). -/
def passLevel (p : PortId) (s : State) : Host.Outcome State Fault Refusal :=
  if s.inReset then .next s
  else
    let t := s.updPort p fun x => { x with txd := x.txd.pass (s.txLine p) }
    if t.txLevels p = [] then execFrameLastByteSent p t else .next t

/-- `n` bit times of a port's TXD. -/
def passLevels (p : PortId) (n : Nat) (s : State) : Host.Outcome State Fault Refusal :=
  match n with
  | 0 => .next s
  | n + 1 =>
    match passLevel p s with
    | .next t => passLevels p n t
    | .fault r => .fault r
    | .refused r => .refused r

/-! ### RXD (R141) -/

/-- One bit time of the line at the receiver (R141): what the receiver holds then, and the byte taken, if the
bit was a stop bit. A low stop bit, a framing fault, takes the byte as read and holds off the next start
bit. -/
def LineReceiver.sample (r : LineReceiver) (level : Bool) : LineReceiver × Option Byte :=
  match r with
  | .idle => (if level then .idle else .character [], none)
  | .character bits =>
    if bits.length < 8 then (.character (bits ++ [level]), none)
    else (if level then .idle else .holdOff, some (byteOfBits bits))
  | .holdOff => (if level then .idle else .holdOff, none)

/-- One bit time of a port's RXD (R141): the receiver samples it, and a byte taken acts as BYTE_TAKEN does
(R144). While RESETn is low nothing is taken (R175). DESIGN CHOICE (log 27, unsafe): the receiver of the line
goes on with the levels in every session state, so a character that begins on a DOWN port (R144, R174) is taken
if its stop bit falls after the announcement. -/
def takeLevel (p : PortId) (level : Bool) (s : State) : Host.Outcome State Fault Refusal :=
  if s.inReset then .next s
  else
    let r := (s.port p).line.sample level
    let t := s.updPort p fun x => { x with line := r.1 }
    match r.2 with
    | some b => execByteTaken p b t
    | none => .next t

/-- The levels of a port's RXD, one bit time after the other. -/
def takeLevels (p : PortId) (levels : List Bool) (s : State) : Host.Outcome State Fault Refusal :=
  match levels with
  | [] => .next s
  | level :: rest =>
    match takeLevel p level s with
    | .next t => takeLevels p rest t
    | .fault r => .fault r
    | .refused r => .refused r

end Sys2Proof.Machine
end

