-- ==== Sys2Proof/Safety.lean ====
section
/-! DEFINITION. What the statements speak of: the laws that every step keeps (R3, R4, R6, R12, R21, R22, R23,
R64, R101, R108, R156, R162, R164, R172, R181, R185), when a port serves a command, the effects of an act as
the rules say them, and the bytes of a frame taken one after the other. -/

namespace Sys2Proof.Machine

/-! ### Laws of one port record -/

/-- A port's slots, queue, window, gate and, while it is not UP, its empty units. -/
structure PortLaw (x : Port) : Prop where
  /-- No port owes more than four replies (R156). -/
  slots : x.replies.length ≤ Config.replySlots
  /-- A report queue holds at most 16 reports (R101). -/
  queue : x.reports.length ≤ Config.reportPlaces
  /-- A port that is not UP has an empty event unit, no window, no offer and no report (R162, R65, R104). -/
  quiet : x.session ≠ .up →
    x.flags = 0#7 ∧ x.enables = 0#7 ∧ x.noticeOutstanding = false ∧ x.noticeQueued = false ∧
      x.window = none ∧ x.inFlight = [] ∧ x.prepared = none ∧ x.reports = []
  /-- An UP port has a window from 1 to 4, its in-flight list is no longer (R64), and its epoch is not 0
  (R119). -/
  window : x.session = .up →
    x.epoch ≠ 0#16 ∧ ∃ w, x.window = some w ∧ 1 ≤ w ∧ w ≤ 4 ∧ x.inFlight.length ≤ w
  /-- A queued notice has closed the gate (R164). -/
  gate : x.noticeQueued = true → x.noticeOutstanding = true
  /-- With the gate open no enabled flag is pending (R164). -/
  told : x.noticeOutstanding = false → x.flags &&& x.enables = 0#7
  /-- The pending set that a queued notice will carry is not empty (R165). -/
  carried : x.noticeQueued = true → x.flags ≠ 0#7
  /-- A DOWN port waits to send nothing, sends nothing and hunts (R121, R124, R144). -/
  silent : x.session = .down →
    x.helloPending = false ∧ x.replies = [] ∧ x.receiver = .hunt ∧ ∀ f, x.tx ≠ .sending f
  /-- With no frame on the line and no idle running after one, no bit of a frame is left on TXD (R140). -/
  free : x.tx = .idle → x.txd = .idle
  /-- A port whose line is in break is DOWN (R123). -/
  broken : x.lineInBreak = true → x.session = .down

/-- Every port keeps the laws of a port record. -/
def State.portsLawful (s : State) : Prop := ∀ p, PortLaw (s.port p)

/-! ### Laws of the exchange mode -/

/-- What the mode says of the store, the mailboxes and the ports (R125, R172, R178, R181). -/
structure ModeLaw (s : State) : Prop where
  /-- No descriptor is LIVE while a test runs or in FAULT (R178, R181). -/
  store : s.mode ≠ .running → ∀ d, s.desc d = none
  /-- In FAULT no mailbox is other than FREE and no port is UP (R181). -/
  fault : s.mode = .fault →
    (∀ m, (s.mbx m).state = .free) ∧ ∀ p, (s.port p).session ≠ .up
  /-- The start-up interval is a test with every mailbox FREE and every port DOWN (R125, R174). -/
  startUp : s.startUp = true →
    s.mode = .testing ∧ (∀ m, (s.mbx m).state = .free) ∧ ∀ p, (s.port p).session = .down
  /-- After the start-up interval a port is DOWN only while its line is in break (R125). -/
  heard : s.startUp = false → ∀ p, (s.port p).session = .down → (s.port p).lineInBreak = true

/-! ### Laws of the store, the queues and the in-flight lists -/

/-- How many non-FREE entries name the descriptor (R12). -/
def State.entriesOf (s : State) (i : DescId) : Nat :=
  s.entries.count fun x =>
    match x with
    | some en => decide (en.descriptor = i)
    | none => false

/-- The offer id of an entry; absent unless it is OFFERED (R4). -/
def State.offerIdOf (s : State) (e : EntryId) : Option Byte :=
  (s.entry e).bind fun en => en.offer.map (·.id)

/-- The entries, descriptors, queues and in-flight lists fit together (R4, R5, R12, R21, R22, R23, R27, R30,
R42, R64, R91). -/
structure StoreLaw (s : State) : Prop where
  /-- A non-FREE entry names a LIVE descriptor and stands in the queue of its mailbox (R4). -/
  entry : ∀ e en, s.entry e = some en →
    (s.desc en.descriptor).isSome ∧ e ∈ (s.mbx en.mailbox).queue
  /-- The settings of a mailbox that is not FREE lie in their ranges (R21, R27). -/
  settings : ∀ m, (s.mbx m).state ≠ .free →
    1 ≤ (s.mbx m).depth ∧ (s.mbx m).depth ≤ 32 ∧ 1 ≤ (s.mbx m).ackWindow ∧
      (s.mbx m).ackWindow ≤ 10000 ∧ 1 ≤ (s.mbx m).retryLimit ∧ (s.mbx m).retryLimit ≤ 15 ∧
      (s.mbx m).watermark ≤ (s.mbx m).depth
  /-- The attempts of a QUEUED entry are below its mailbox's retry limit; those of an OFFERED one are at least
  1 and at most that limit (R4). -/
  attempts : ∀ e en, s.entry e = some en →
    if en.queued then en.attempts < (s.mbx en.mailbox).retryLimit
    else 1 ≤ en.attempts ∧ en.attempts ≤ (s.mbx en.mailbox).retryLimit
  /-- What stands in a queue is a non-FREE entry of that mailbox (R22). -/
  queue : ∀ m e, e ∈ (s.mbx m).queue → ∃ en, s.entry e = some en ∧ en.mailbox = m
  /-- No entry stands twice in a queue, a FREE mailbox has an empty one, and none is longer than the depth
  limit (R22). -/
  bounded : ∀ m, (s.mbx m).queue.Nodup ∧ (s.mbx m).queue.length ≤ (s.mbx m).depth ∧
    ((s.mbx m).state = .free → (s.mbx m).queue = [])
  /-- Queue order: no entry stands ahead of one that must stand ahead of it (R23). -/
  sorted : ∀ m, (s.mbx m).queue.Pairwise fun a b => keyAhead (s.key b) (s.key a) = false
  /-- The reference count is the number of entries that name the descriptor, and at least 1 (R12). -/
  references : ∀ i d, s.desc i = some d → d.refCount = s.entriesOf i ∧ 1 ≤ d.refCount
  /-- The six counts and the reference count sum to targets (R12, R91). -/
  tally : ∀ i d, s.desc i = some d → d.tally.sum + d.refCount = d.targets
  /-- The entries of one message stand in distinct mailboxes (R5). -/
  distinct : ∀ e f x y, s.entry e = some x → s.entry f = some y →
    x.descriptor = y.descriptor → x.mailbox = y.mailbox → e = f
  /-- An entry in an in-flight list is OFFERED, and the list is that of its mailbox's owner (R64). -/
  flight : ∀ p e, e ∈ (s.port p).inFlight →
    ∃ en, s.entry e = some en ∧ en.queued = false ∧ (s.mbx en.mailbox).owner = p
  /-- An OFFERED entry stands in the in-flight list of its mailbox's owner (R64). -/
  offered : ∀ e en, s.entry e = some en → en.queued = false →
    e ∈ (s.port (s.mbx en.mailbox).owner).inFlight
  /-- No in-flight list holds an entry twice (R64). -/
  once : ∀ p, (s.port p).inFlight.Nodup
  /-- The prepared offer is the one entry of the list in phase SENDING (R64, R72). -/
  prepared : ∀ p pr, (s.port p).prepared = some pr → pr.entry ∈ (s.port p).inFlight
  phase : ∀ p e en o, e ∈ (s.port p).inFlight → s.entry e = some en → en.offer = some o →
    (o.phase = .sending ↔ (s.port p).prepared.map (·.entry) = some e)
  /-- No two entries in flight at one port carry the same offer id (R70). -/
  ids : ∀ p, ((s.port p).inFlight.map s.offerIdOf).Nodup
  /-- A CLOSING mailbox holds entries, none of them QUEUED (R30). -/
  closing : ∀ m, (s.mbx m).state = .closing →
    (s.mbx m).queue ≠ [] ∧ s.queuedIn m = []
  /-- Every entry of a DORMANT mailbox is QUEUED (R41, R42). -/
  dormant : ∀ m, (s.mbx m).state = .dormant → ∀ e ∈ (s.mbx m).queue, s.isQueued e = true
  /-- The owner of an OPEN or CLOSING mailbox is UP (R41, R67). -/
  owner : ∀ m, (s.mbx m).state = .opened ∨ (s.mbx m).state = .closing →
    (s.port (s.mbx m).owner).session = .up

/-- Two LIVE descriptors never carry the same sender port, epoch and tag (R3). -/
def State.tagsDistinct (s : State) : Prop :=
  ∀ i j x y, s.desc i = some x → s.desc j = some y →
    x.senderPort = y.senderPort → x.senderEpoch = y.senderEpoch → x.tag = y.tag → i = j

/-- The buffer pool's account (R6, R7, R185): a LIVE message has ceil(length/64) in-use buffers of its own,
every in-use buffer is on the list of a LIVE descriptor, and pool-low arming follows the free count. -/
structure BufferLaw (s : State) : Prop where
  held : ∀ i d, s.desc i = some d →
    d.buffers.Nodup ∧ d.buffers.length = buffersFor d.length ∧
      ∀ b ∈ d.buffers, s.buffers.get b = .inUse
  apart : ∀ i j x y b, s.desc i = some x → s.desc j = some y →
    b ∈ x.buffers → b ∈ y.buffers → i = j
  used : ∀ b, s.buffers.get b = .inUse → ∃ i d, s.desc i = some d ∧ b ∈ d.buffers
  /-- From the end of the first test on, arming is armed exactly when the free count is at or above the low
  mark (R185). -/
  arming : s.startUp = false → s.poolArmed = decide (s.lowMark ≤ s.freeBuffers)

/-- The group table's law (R107, R108): no list holds a mailbox twice or one that is neither OPEN nor
DORMANT, no list is longer than 8, and an UNDEFINED group's list is empty. -/
def State.groupsLawful (s : State) : Prop :=
  ∀ g, (s.grp g).members.Nodup ∧ (s.grp g).members.length ≤ Config.maxMembers ∧
    ((s.grp g).policy = none → (s.grp g).members = []) ∧
    ∀ m ∈ (s.grp g).members, (s.mbx m).state = .opened ∨ (s.mbx m).state = .dormant

/-- The laws of the ports, the mode, the groups and the store together. -/
structure Lawful (s : State) : Prop where
  ports : s.portsLawful
  mode : ModeLaw s
  groups : s.groupsLawful
  store : StoreLaw s

/-! ### When a command is carried out -/

/-- Port `p` takes a command frame into a reply slot: RESETn is high, the port is not DOWN and owes fewer
than four replies (R121, R147, R157). -/
structure Hears (s : State) (p : PortId) : Prop where
  awake : s.inReset = false
  notDown : (s.port p).session ≠ .down
  slot : (s.port p).replies.length < Config.replySlots

/-- A session command on port `p` reaches its own checks: the port is UP and the mode is not FAULT (R121,
R173). -/
structure Serves (s : State) (p : PortId) : Prop where
  awake : s.inReset = false
  up : (s.port p).session = .up
  slot : (s.port p).replies.length < Config.replySlots
  mode : s.mode ≠ .fault

/-- The state with one more READY reply at port `p`, last in its order (R156). -/
def State.replied (s : State) (p : PortId) (kind seq : Byte) (st : Status) (res : Results) : State :=
  s.updPort p (·.post { kind := kind, seq := seq, state := .ready st res })

/-! ### The effects of an act, as the statements say them -/

/-- The exchange-wide registers alone: every table emptied, the pool's bytes and arming put aside. Two
states with the same registers differ in their tables at most. -/
def State.registers (s : State) : State :=
  { s with
    poolArmed := true
    descriptors := Table.replicate 128 none
    entries := Table.replicate 256 none
    buffers := Table.replicate 384 .free
    mem := []
    mailboxes := Table.replicate 32 Mailbox.blank
    groups := Table.replicate 8 Group.undefined
    ports := Table.replicate 6 (Port.powerOn false) }

/-- A port record with its event unit's flags and notice, its reports, its lost reports and its replies put
aside. -/
def Port.aside (x : Port) : Port :=
  { x with
    flags := 0#7, noticeOutstanding := false, noticeQueued := false, reports := [],
    lostReports := 0#16, replies := [] }

/-- What an act does to an event unit, `x` being the port record that the act leaves otherwise: the events
`due`, and no others, are raised if the port is UP, and the notice condition is evaluated after each raise
(R163, R164). Reports, lost reports and replies are said apart. -/
structure Told (x y : Port) (due : Event → Prop) : Prop where
  rest : y.aside = x.aside
  /-- A flag is pending afterwards exactly when it was pending or has been raised. -/
  flags : ∀ e, e.bit &&& y.flags = e.bit ↔
    e.bit &&& x.flags = e.bit ∨ (x.session = .up ∧ due e)
  /-- A closed gate stays closed, and no second notice is queued. -/
  closed : x.noticeOutstanding = true →
    y.noticeOutstanding = true ∧ y.noticeQueued = x.noticeQueued
  /-- An open gate closes exactly when something is raised and an enabled flag is then pending. -/
  opened : x.noticeOutstanding = false →
    (y.noticeOutstanding = true ↔
      x.session = .up ∧ (∃ e, due e) ∧ y.flags &&& x.enables ≠ 0#7)
  /-- A gate that closes has queued a notice, and nothing else queues one. -/
  queued : x.noticeOutstanding = false →
    y.noticeQueued = (x.noticeQueued || y.noticeOutstanding)

/-- The level arming of a mailbox after its queue has come to length `n` (R26). -/
def Mailbox.armedAt (x : Mailbox) (n : Nat) : Bool :=
  if x.watermark = 0 then x.armed else decide (n < x.watermark)

/-- The evaluation of level arming at queue length `n` raises LEVEL (R26). -/
def Mailbox.levelDue (x : Mailbox) (n : Nat) : Prop :=
  x.armed = true ∧ x.watermark ≠ 0 ∧ x.watermark ≤ n

/-- A queue or an in-flight list without one entry; the others keep their order (R13 steps 1 and 2). -/
def without (es : List EntryId) (e : EntryId) : List EntryId := es.filter fun f => decide (f ≠ e)

/-- A port record without the offer of `e` (R13, R64, R85): it leaves the in-flight list, and if it was the
prepared offer there is none any more and its frame stops if it was in transmission. -/
def Port.withoutOffer (x : Port) (e : EntryId) : Port :=
  { x with
    inFlight := without x.inFlight e
    prepared := x.prepared.filter fun pr => decide (pr.entry ≠ e)
    tx :=
      match x.prepared, x.tx with
      | some pr, .sending (.offer f) => if pr.entry = e then .stopped else .sending (.offer f)
      | _, tx => tx }

/-- A descriptor after one of its entries got the outcome `o` (R13 steps 4 and 5). -/
def Descriptor.counted (d : Descriptor) (o : EntryOutcome) : Descriptor :=
  { d with tally := d.tally.add o, refCount := d.refCount - 1 }

/-- The REPORT of a message whose last entry got the outcome `o` (R99). -/
def Descriptor.lastReport (d : Descriptor) (o : EntryOutcome) : Report :=
  { tag := d.tag, sequence := d.sequence, summary := (d.tally.add o).summary,
    targets := d.targets, skipped := d.skipped, tally := d.tally.add o }

/-- The sender port takes a report of the message (R98). -/
def State.reportDue (s : State) (d : Descriptor) (p : PortId) : Prop :=
  d.reportWanted = true ∧ p = d.senderPort ∧ (s.port p).session = .up ∧
    (s.port p).epoch = d.senderEpoch

/-- The entry `e`, which holds `en` of the message `d`, got the outcome `o`: R13 with R14, R19, R26, R97 to
R102. What follows when it was the last entry of a CLOSING mailbox (R32) is no part of it. -/
structure Settled (s t : State) (e : EntryId) (en : Entry) (d : Descriptor) (o : EntryOutcome) :
    Prop where
  /-- The entry is FREE, every other as it was. -/
  entries : ∀ f, t.entry f = if f = e then none else s.entry f
  /-- Its message has one reference less and one outcome more, or is complete. -/
  message : t.desc en.descriptor = if d.refCount = 1 then none else some (d.counted o)
  /-- Every other message is as it was. -/
  messages : ∀ i, i ≠ en.descriptor → t.desc i = s.desc i
  /-- A completed message's buffers are free, every other where it was. -/
  buffers : ∀ b, t.buffers.get b =
    if d.refCount = 1 ∧ b ∈ d.buffers then .free else s.buffers.get b
  /-- Pool-low arming is evaluated at a completion and nowhere else (R19). -/
  pool : t.poolArmed =
    if d.refCount = 1 then decide (s.lowMark ≤ t.freeBuffers) else s.poolArmed
  /-- The mailbox's queue lost the entry; its level arming is evaluated (R26), and a PURGED entry of a
  CLOSING mailbox is counted (R32). -/
  mailbox : t.mbx en.mailbox =
    { s.mbx en.mailbox with
      queue := without (s.mbx en.mailbox).queue e
      armed := (s.mbx en.mailbox).armedAt (without (s.mbx en.mailbox).queue e).length
      closeCount := (s.mbx en.mailbox).closeCount +
        if o = .purged ∧ (s.mbx en.mailbox).state = .closing then 1 else 0 }
  /-- Every other mailbox is as it was. -/
  mailboxes : ∀ m, m ≠ en.mailbox → t.mbx m = s.mbx m
  /-- The owner's port loses the offer. LEVEL is raised at the owner, REPORT_LOST at the sender and POOL_LOW
  everywhere, each under its own condition (R26, R102, R19). -/
  ports : ∀ p, Told
    (if p = (s.mbx en.mailbox).owner then (s.port p).withoutOffer e else s.port p) (t.port p)
    fun ev =>
      (ev = .level ∧ p = (s.mbx en.mailbox).owner ∧
        (s.mbx en.mailbox).levelDue (without (s.mbx en.mailbox).queue e).length) ∨
      (ev = .reportLost ∧ d.refCount = 1 ∧ s.reportDue d p ∧
        Config.reportPlaces ≤ (s.port p).reports.length) ∨
      (ev = .poolLow ∧ d.refCount = 1 ∧ s.poolArmed = true ∧ t.freeBuffers < s.lowMark)
  /-- A due report is appended while a place is free; otherwise it is lost and counted. -/
  reports : ∀ p,
    (d.refCount = 1 ∧ s.reportDue d p ∧ (s.port p).reports.length < Config.reportPlaces →
      (t.port p).reports = (s.port p).reports ++ [d.lastReport o] ∧
        (t.port p).lostReports = (s.port p).lostReports) ∧
    (d.refCount = 1 ∧ s.reportDue d p ∧ Config.reportPlaces ≤ (s.port p).reports.length →
      (t.port p).reports = (s.port p).reports ∧
        (t.port p).lostReports = bump (s.port p).lostReports) ∧
    (¬(d.refCount = 1 ∧ s.reportDue d p) →
      (t.port p).reports = (s.port p).reports ∧
        (t.port p).lostReports = (s.port p).lostReports)
  replies : ∀ p, (t.port p).replies = (s.port p).replies
  groups : t.groups = s.groups
  mem : t.mem = s.mem
  registers : t.registers = s.registers

/-- The entry `e` got the outcome `o` and, if it was the last of a CLOSING mailbox, the mailbox is FREE and
its deferred close reply, if one is recorded, is completed with the close count (R13, R15, R32). -/
def Resolved (s t : State) (e : EntryId) (en : Entry) (d : Descriptor) (o : EntryOutcome) : Prop :=
  ∃ u, Settled s u e en d o ∧ t =
    if (u.mbx en.mailbox).state = .closing ∧ (u.mbx en.mailbox).queue = [] then
      match (u.mbx en.mailbox).closeReply with
      | some (q, _) =>
        (u.updMbx en.mailbox fun _ => Mailbox.blank).updPort q fun x =>
          x.complete (.close en.mailbox)
            (.closedMailbox en.mailbox (u.mbx en.mailbox).closeCount)
      | none => u.updMbx en.mailbox fun _ => Mailbox.blank
    else u

/-- The entries `es` got the outcome `o` in turn, in the order of the list, as one cause (R16): each message
completes at its own last entry and hands on its own report. -/
def Removed (s t : State) (es : List EntryId) (o : EntryOutcome) : Prop :=
  match es with
  | [] => t = s
  | e :: rest => ∃ u en d, s.entry e = some en ∧ s.desc en.descriptor = some d ∧
      Settled s u e en d o ∧ Removed u t rest o

/-- The OFFERED entry `e` is QUEUED again in its place, its offer gone from the port of its mailbox's owner
and otherwise with nothing changed (R83). -/
def State.requeued (s : State) (e : EntryId) (en : Entry) : State :=
  (s.setEntry e (some { en with offer := none })).updPort (s.mbx en.mailbox).owner fun x =>
    x.withoutOffer e

/-- The unaccepted end of the offer of `e`, which counts as one attempt (R82): the first line that holds. -/
def Unaccepted (s t : State) (e : EntryId) (en : Entry) (d : Descriptor) : Prop :=
  if d.cancelRequested = true then Resolved s t e en d .cancelled
  else if d.expired = true then Resolved s t e en d .expired
  else if (s.mbx en.mailbox).state = .closing then Resolved s t e en d .purged
  else if en.attempts = (s.mbx en.mailbox).retryLimit then Resolved s t e en d .exhausted
  else t = s.requeued e en

/-- An accepted SEND of port `p` with fields `f` to the mailboxes `ts`, `skipped` members skipped (R2, R11,
R55): `t` before its reply is posted. -/
structure Accepted (s t : State) (p : PortId) (f : SendFields) (ts : List MailboxId)
    (skipped : Nat) (i : DescId) (bufs : List BufferId) (es : List EntryId) : Prop where
  /-- A FREE descriptor is LIVE with the fields of R2, every other as it was. -/
  free : s.desc i = none
  message : t.desc i = some
    { senderPort := p, senderEpoch := (s.port p).epoch, tag := f.tag, cls := f.cls,
      length := f.payload.length, buffers := bufs, sequence := s.arrival + 1#32,
      deadline := if f.lifetime = 0 then none else some (s.now + f.lifetime),
      reportWanted := f.reportWanted, cancelRequested := false, expired := false,
      refCount := ts.length, targets := ts.length, skipped := skipped, tally := Tally.zero }
  messages : ∀ j, j ≠ i → t.desc j = s.desc j
  /-- ceil(length/64) distinct free buffers are in use, every other where it was. -/
  count : bufs.Nodup ∧ bufs.length = (f.payload.length + 63) / 64
  taken : ∀ b ∈ bufs, s.buffers.get b = .free ∧ t.buffers.get b = .inUse
  buffers : ∀ b, b ∉ bufs → t.buffers.get b = s.buffers.get b
  /-- The payload reads back from them byte for byte, and no other byte of the pool changes. -/
  payload : t.mem.readPayload bufs f.payload.length = f.payload
  mem : ∀ a, (∀ k, k < f.payload.length → a ≠ payloadAddress bufs k) → t.mem.read a = s.mem.read a
  /-- One FREE entry a target is QUEUED with attempts 0, every other as it was. -/
  one : es.length = ts.length ∧ es.Nodup
  created : ∀ (k : Nat) m e, ts[k]? = some m → es[k]? = some e →
    s.entry e = none ∧
      t.entry e = some { descriptor := i, mailbox := m, attempts := 0, offer := none }
  entries : ∀ e, e ∉ es → t.entry e = s.entry e
  /-- Each stands in its place in its queue (R23), and level arming is evaluated (R26). -/
  queued : ∀ (k : Nat) m e, ts[k]? = some m → es[k]? = some e →
    ∃ ahead behind, (s.mbx m).queue = ahead ++ behind ∧
      (∀ x ∈ ahead, keyAhead (t.key e) (t.key x) = false) ∧
      (∀ x ∈ behind, keyAhead (t.key e) (t.key x) = true) ∧
      t.mbx m =
        { s.mbx m with
          queue := ahead ++ e :: behind
          armed := (s.mbx m).armedAt ((s.mbx m).queue.length + 1) }
  mailboxes : ∀ m, m ∉ ts → t.mbx m = s.mbx m
  /-- Pool-low arming is evaluated (R19). -/
  pool : t.poolArmed = decide (s.lowMark ≤ t.freeBuffers)
  /-- An insertion that disarms a mailbox raises LEVEL at its owner (R26), and the crossing of the low mark
  raises POOL_LOW at every UP port (R19). -/
  ports : ∀ q, Told (s.port q) (t.port q) fun ev =>
    (ev = .level ∧ ∃ m ∈ ts, (s.mbx m).owner = q ∧
      (s.mbx m).levelDue ((s.mbx m).queue.length + 1)) ∨
    (ev = .poolLow ∧ s.poolArmed = true ∧ t.freeBuffers < s.lowMark)
  kept : ∀ q, (t.port q).reports = (s.port q).reports ∧ (t.port q).replies = (s.port q).replies ∧
    (t.port q).lostReports = (s.port q).lostReports
  groups : t.groups = s.groups
  registers : t.registers = { s.registers with arrival := s.arrival + 1#32 }

/-! ### A session end, as the statements say it -/

/-- The withdrawal of the offer of `e` (R85): the attempts are lowered by one, and the entry is resolved
CANCELLED, EXPIRED or PURGED by the first line of R82's table that holds, line 4 left out, or requeued. -/
def WithdrawnOffer (s t : State) (e : EntryId) (en : Entry) (d : Descriptor) : Prop :=
  ∀ low u, low = { en with attempts := en.attempts - 1 } → u = s.setEntry e (some low) →
    if d.cancelRequested = true then Settled u t e low d .cancelled
    else if d.expired = true then Settled u t e low d .expired
    else if (s.mbx en.mailbox).state = .closing then Settled u t e low d .purged
    else t = u.requeued e low

/-- The offers of `es` are withdrawn in turn, in the order of the list (R16, R85). -/
def Withdrawn (s t : State) (es : List EntryId) : Prop :=
  match es with
  | [] => t = s
  | e :: rest => ∃ u en d, s.entry e = some en ∧ s.desc en.descriptor = some d ∧
      WithdrawnOffer s u e en d ∧ Withdrawn u t rest

/-- Steps 2 to 7 of the end of port `p`'s session for the cause `c`, from the state `w` that the withdrawal
leaves (R132). -/
structure AfterWithdrawal (w t : State) (p : PortId) (c : EndCause) : Prop where
  /-- The ended port (R132 steps 3 to 6, R133): epoch, counters and next offer id are kept (R134). -/
  port : t.port p =
    { w.port p with
      session := if c = .lineBreak then .down else .announced
      inFlight := [], prepared := none, reports := [], flags := 0#7, enables := 0#7,
      noticeOutstanding := false, noticeQueued := false, window := none,
      replies := if c = .lineBreak then [] else (w.port p).replies.filter (·.isSending)
      tx :=
        match (w.port p).tx with
        | .sending (.offer _) => .stopped
        | .sending f => if c = .lineBreak then .stopped else .sending f
        | .idle => .idle
        | .stopped => .stopped }
  /-- An OPEN mailbox of the port is DORMANT, with a deadline if the limit is not 0 and everything else of it
  kept; a CLOSING one is FREE; every other is as it was (R41). A close reply owed to the port is forgotten
  (R33). -/
  mailboxes : ∀ m x,
    x = { w.mbx m with closeReply := (w.mbx m).closeReply.filter fun r => decide (r.1 ≠ p) } →
    t.mbx m =
      if x.owner = p ∧ x.state = .opened then
        { x with
          state := .dormant
          dormancyDeadline :=
            if w.dormancyLimit = 0 then none else some (w.now + w.dormancyLimit * 1000) }
      else if x.owner = p ∧ x.state = .closing then Mailbox.blank
      else x
  /-- PORT_DOWN, and nothing else, is raised at an UP principal when another port's session has ended
  (R136). -/
  others : ∀ q, q ≠ p → Told (w.port q) (t.port q) fun ev =>
    ev = .portDown ∧ (w.port q).principal = true ∧ (w.port p).principal = false
  reports : ∀ q, q ≠ p →
    (t.port q).reports = (w.port q).reports ∧ (t.port q).lostReports = (w.port q).lostReports
  /-- Close replies owed to other ports are completed in ascending order of mailbox id (R41). -/
  replies : ∀ q, q ≠ p → (t.port q).replies =
    ((List.finRange 32).foldl (fun x m =>
      if (w.mbx m).owner = p ∧ (w.mbx m).state = .closing ∧
          (w.mbx m).closeReply.map (·.1) = some q then
        x.complete (.close m) (.closedMailbox m (w.mbx m).closeCount)
      else x) (w.port q)).replies
  entries : t.entries = w.entries
  descriptors : t.descriptors = w.descriptors
  buffers : t.buffers = w.buffers
  pool : t.poolArmed = w.poolArmed
  groups : t.groups = w.groups
  mem : t.mem = w.mem
  registers : t.registers = w.registers

/-- The session of port `p` has ended for the cause `c` (R132): every entry of its in-flight list is withdrawn,
oldest offer first, with all that its resolution brings, and then steps 2 to 7 are taken. -/
def SessionEnded (s t : State) (p : PortId) (c : EndCause) : Prop :=
  ∃ w, Withdrawn s w (s.port p).inFlight ∧ AfterWithdrawal w t p c

/-! ### Frames byte by byte -/

/-- The bytes of a frame taken on port `p`, one BYTE_TAKEN after the other. -/
def takeBytes (p : PortId) (bytes : List Byte) (s : State) : Host.Outcome State Fault Refusal :=
  match bytes with
  | [] => .next s
  | b :: rest =>
    match exec (.byteTaken p b) s with
    | .next t => takeBytes p rest t
    | .fault r => .fault r
    | .refused r => .refused r

end Sys2Proof.Machine
end

