-- ==== Sys2Proof/WellFormed.lean ====
section
/-! DEFINITION. What a command of each row may look like beyond the types of its operands: a SEND that
reaches the command decoder carries at most 240 payload bytes (R47, R151), and a test judges each buffer
once (R176). -/

namespace Sys2Proof

/-- No buffer is named twice. -/
def namesOnce (bs : List BufferId) : Bool :=
  match bs with
  | [] => true
  | b :: rest => !rest.contains b && namesOnce rest

/-- The operand lies in what the row admits. -/
def Instr.wellFormed (i : Instr) : Bool :=
  match i with
  | .send _ _ _ _ _ _ _ _ payload => decide (payload.length ≤ Config.maxPayload)
  | .testEnd failed => namesOnce failed
  | .attach .. | .detach .. | .openMailbox .. | .close .. | .hold .. | .resume .. | .reclaim ..
  | .queryMailbox .. | .cancel .. | .setEvents .. | .readEvents .. | .queryPool .. | .queryPort ..
  | .configure .. | .groupDefine .. | .groupAdd .. | .groupRemove .. | .groupDelete ..
  | .forceClose .. | .clear .. | .retest .. | .accept .. | .decline .. | .selection ..
  | .ackDeadlineExpiry .. | .lifetimeExpiry .. | .dormancyExpiry .. | .breakStart .. | .breakEnd ..
  | .frameDiscard .. | .gapExpiry .. | .malformed .. | .arbiterBeginFrame ..
  | .frameLastByteSent .. | .stoppedFrameIdleEnd .. | .powerOn .. | .resetAsserted
  | .byteTaken .. => true

end Sys2Proof
end

