-- ==== Sys2Proof/Certificates/Slice0/Obligations.lean ====
section
/-! DEFINITION. The statements for the provers. Where a statement names one or more commands, its conclusion
says that `exec` answers a next state and which. -/

open Sys2Proof Sys2Proof.Machine

/-! ### The machine as a whole -/

/-- A step with a command at the front of the queue is that command's meaning on the state with the rest of
the queue. -/
def Obligations.StepRunsTheFrontCommand : Prop :=
  ∀ (c : Instr) (rest : List Instr) (s : State), s.pending = c :: rest →
    step s = exec c { s with pending := rest }

/-- With no command waiting a step advances the time base by 1 ms and nothing else; while RESETn is low it
changes nothing. The model's choice: log 3. -/
def Obligations.IdleStepAdvancesTheTimeBase : Prop :=
  ∀ s : State, s.pending = [] →
    step s = .next (if s.inReset then s else { s with now := s.now + 1 })

/-- No command stops the block: each answers a next state, and none touches the queue of the commands that
wait. -/
def Obligations.EveryCommandCompletes : Prop :=
  ∀ (c : Instr) (s : State), ∃ t, exec c s = .next t ∧ t.pending = s.pending

/-- A command answered READY with a status other than OK and PARTIAL changes nothing except the reply it
earns, and the reply has no results. -/
def Obligations.RefusalChangesNothing : Prop :=
  ∀ (c : Instr) (f : HostFrame) (s t : State) (st : Status) (res : Results),
    encodeFrame c = some f → f.kind ≠ Kind.accept → f.kind ≠ Kind.decline → Hears s f.port →
    exec c s = .next t →
    (t.port f.port).replies.getLast? = some ⟨f.kind, f.seq, .ready st res⟩ →
    st ≠ .ok → st ≠ .partialCancel →
    res = .none ∧ t = s.replied f.port f.kind f.seq st .none

/-- The stages before a command's own checks, in their order: a DOWN port ignores it, four owed replies
drop it with OVERRUN, FAULT answers FAULTED except to QUERY_POOL, and an ANNOUNCED port answers
NOT_ATTACHED except to ATTACH and QUERY_POOL. -/
def Obligations.CommandStages : Prop :=
  ∀ (c : Instr) (f : HostFrame) (s : State),
    c.wellFormed = true → encodeFrame c = some f → f.kind ≠ Kind.accept → f.kind ≠ Kind.decline →
    s.inReset = false →
    ((s.port f.port).session = .down → exec c s = .next s) ∧
    ((s.port f.port).session ≠ .down → 4 ≤ (s.port f.port).replies.length →
      exec c s = .next (s.updPort f.port fun x =>
        Port.raise { x with droppedCommands := bump x.droppedCommands } .overrun)) ∧
    ((s.port f.port).session ≠ .down → (s.port f.port).replies.length < 4 → s.mode = .fault →
      f.kind ≠ Kind.queryPool →
      exec c s = .next (s.replied f.port f.kind f.seq .faulted .none)) ∧
    ((s.port f.port).session = .announced → (s.port f.port).replies.length < 4 →
      s.mode ≠ .fault → f.kind ≠ Kind.queryPool → f.kind ≠ Kind.attach →
      exec c s = .next (s.replied f.port f.kind f.seq .notAttached .none))

/-- A principal command on a port that is not the principal's is refused NOT_PRINCIPAL and changes
nothing. -/
def Obligations.PrincipalCommandsNeedThePrincipal : Prop :=
  ∀ (c : Instr) (f : HostFrame) (s : State), encodeFrame c = some f → Serves s f.port →
    (s.port f.port).principal = false →
    f.kind ∈ [Kind.configure, Kind.groupDefine, Kind.groupAdd, Kind.groupRemove,
      Kind.groupDelete, Kind.forceClose, Kind.clear, Kind.retest] →
    exec c s = .next (s.replied f.port f.kind f.seq .notPrincipal .none)

/-! ### Power-on, reset and the test -/

/-- POWER_ON, whatever the part held, gives every block its power-on values: the principal is the port that
PSEL names (6 and 7 name none), the rate code is RATE, every port record stands as R119 has it, the store is
empty with every buffer retired, every mailbox is FREE and every group UNDEFINED. State.reset is that state
for the straps 0 and 0 (log 1); the receive line begins idle (log 22), and no bit is on TXD. -/
def Obligations.PowerOnSetsEveryPort : Prop :=
  ∀ (s : State) (psel : BitVec 3) (rate : BitVec 2), ∃ t,
    exec (.powerOn psel rate) s = .next t ∧ t.rate = rate ∧ t.inReset = false ∧
    t.mode = .testing ∧ t.goodCount = 0 ∧ t.startUp = true ∧ t.lowMark = 32 ∧
    t.dormancyLimit = 0 ∧ t.poolArmed = true ∧ t.arrival = 0#32 ∧ t.pending = s.pending ∧
    (∀ d, t.desc d = none) ∧ (∀ e, t.entry e = none) ∧ (∀ b, t.buffers.get b = .retired) ∧
    (∀ m, (t.mbx m).state = .free ∧ (t.mbx m).queue = [] ∧ (t.mbx m).dormancyDeadline = none ∧
      (t.mbx m).closeReply = none) ∧
    (∀ g, (t.grp g).policy = none ∧ (t.grp g).members = []) ∧
    (psel = 0#3 → rate = 0#2 → s.pending = [] → t = State.reset) ∧
    ∀ p : PortId, t.port p =
      { session := .down, lineInBreak := false, helloPending := false, epoch := 0#16,
        principal := decide (psel.toNat = p.val), window := none, inFlight := [],
        nextOfferId := 0#8, prepared := none, replies := [], reports := [], flags := 0#7,
        enables := 0#7, noticeOutstanding := false, noticeQueued := false, badFrames := 0#16,
        droppedCommands := 0#16, lostReports := 0#16, strayAnswers := 0#16, receiver := .hunt,
        line := .idle, tx := .idle, txd := ⟨0, []⟩ }

/-- RESET_ASSERTED: whatever the part held, it leaves one and the same state, so that nothing of it survives,
and every transmit line is idle; until POWER_ON no other event changes anything. Which values stand in the
state meanwhile is the model's choice: log 13. The queue of commands is the sender's. -/
def Obligations.ResetHoldsUntilPowerOn : Prop :=
  (∃ t : State, (∀ s : State, exec .resetAsserted s = .next { t with pending := s.pending }) ∧
    t.inReset = true ∧ t.mode = .testing ∧ t.goodCount = 0 ∧ t.startUp = true ∧ t.lowMark = 32 ∧
    t.dormancyLimit = 0 ∧ t.poolArmed = true ∧ t.arrival = 0#32 ∧
    (∀ p, t.port p = Port.powerOn false) ∧ (∀ p k, t.txLevel p k = true) ∧
    (∀ d, t.desc d = none) ∧ (∀ e, t.entry e = none) ∧ (∀ b, t.buffers.get b = .retired) ∧
    t.mem = [] ∧ (∀ m, t.mbx m = Mailbox.blank) ∧
    ∀ g, (t.grp g).policy = none ∧ (t.grp g).members = []) ∧
  ∀ s : State, s.inReset = true → ∀ c, (∀ a b, c ≠ .powerOn a b) → c ≠ .resetAsserted →
    exec c s = .next s

/-- The end of the power-on test: the buffers that passed are free and the others retired, the good count is
their number, the mode is RUNNING from 96 on and FAULT below, and each port whose line is not in break is
ANNOUNCED with HELLO pending. That the test leaves the listed bytes of the pool as they are is the model's
choice: log 10. -/
def Obligations.PowerOnTestEndAnnounces : Prop :=
  ∀ (s : State) (failed : List BufferId), s.inReset = false → s.startUp = true → ModeLaw s →
    ∃ t, exec (.testEnd failed) s = .next t ∧
      (∀ b, t.buffers.get b = if b ∈ failed then .retired else .free) ∧
      t.goodCount = ((List.finRange 384).filter fun b => decide (b ∉ failed)).length ∧
      t.mode = (if 96 ≤ t.goodCount then .running else .fault) ∧ t.startUp = false ∧
      t.poolArmed = decide (s.lowMark ≤ t.goodCount) ∧
      (∀ p, t.port p =
        if (s.port p).lineInBreak then s.port p
        else { s.port p with helloPending := true, session := .announced, receiver := .hunt }) ∧
      t.descriptors = s.descriptors ∧ t.entries = s.entries ∧ t.mailboxes = s.mailboxes ∧
      t.groups = s.groups ∧ t.mem = s.mem ∧ t.lowMark = s.lowMark ∧
      t.dormancyLimit = s.dormancyLimit ∧ t.arrival = s.arrival ∧ t.rate = s.rate

/-- The end of a RETEST with at least 96 good buffers: the result is applied, the mode is RUNNING, the
deferred RETEST reply is completed OK with the good count, and POOL_LOW is raised at every UP port exactly if
arming was armed and the free count is below the low mark. That the test leaves the listed bytes of the pool
as they are is the model's choice: log 10. -/
def Obligations.RetestEndInRunning : Prop :=
  ∀ (s : State) (failed : List BufferId), s.inReset = false → s.startUp = false →
    s.mode = .testing →
    96 ≤ ((List.finRange 384).filter fun b => decide (b ∉ failed)).length →
    ∃ t, exec (.testEnd failed) s = .next t ∧ t.mode = .running ∧
      (∀ b, t.buffers.get b = if b ∈ failed then .retired else .free) ∧
      t.goodCount = ((List.finRange 384).filter fun b => decide (b ∉ failed)).length ∧
      t.poolArmed = decide (s.lowMark ≤ t.goodCount) ∧
      (∀ p, Told (s.port p) (t.port p) fun ev =>
        ev = .poolLow ∧ s.poolArmed = true ∧ t.goodCount < s.lowMark) ∧
      (∀ p, (t.port p).replies = ((s.port p).complete .retest (.retested t.goodCount)).replies ∧
        (t.port p).reports = (s.port p).reports ∧
        (t.port p).lostReports = (s.port p).lostReports) ∧
      t.descriptors = s.descriptors ∧ t.entries = s.entries ∧ t.mailboxes = s.mailboxes ∧
      t.groups = s.groups ∧ t.mem = s.mem ∧ t.lowMark = s.lowMark ∧
      t.dormancyLimit = s.dormancyLimit ∧ t.arrival = s.arrival

/-- The end of a RETEST with fewer than 96 good buffers: FAULT, every session ended, every mailbox FREE,
every member list empty, and each port that is not DOWN ANNOUNCED with HELLO pending. The model's readings:
a FREE mailbox stands at Mailbox.blank (log 15), a reply on the line keeps its slot (log 11), the test leaves
the listed bytes of the pool as they are (log 10), an OFFER frame stops in its last byte too (log 26). -/
def Obligations.RetestEndInFault : Prop :=
  ∀ (s : State) (failed : List BufferId), s.inReset = false → s.startUp = false →
    s.mode = .testing → Lawful s →
    ((List.finRange 384).filter fun b => decide (b ∉ failed)).length < 96 →
    ∃ t, exec (.testEnd failed) s = .next t ∧ t.mode = .fault ∧
      (∀ b, t.buffers.get b = if b ∈ failed then .retired else .free) ∧
      t.goodCount = ((List.finRange 384).filter fun b => decide (b ∉ failed)).length ∧
      t.poolArmed = decide (s.lowMark ≤ t.goodCount) ∧
      (∀ m, t.mbx m = Mailbox.blank) ∧
      (∀ g, t.grp g = { s.grp g with members := [] }) ∧
      (∀ p, (s.port p).session = .down → t.port p = s.port p) ∧
      (∀ p, (s.port p).session = .announced →
        t.port p = { s.port p with helloPending := true }) ∧
      (∀ p, (s.port p).session = .up →
        t.port p =
          { s.port p with
            session := .announced, helloPending := true, inFlight := [], prepared := none,
            reports := [], flags := 0#7, enables := 0#7, noticeOutstanding := false,
            noticeQueued := false, window := none,
            replies := (s.port p).replies.filter (·.isSending)
            tx := if (s.port p).tx.isOffer then .stopped else (s.port p).tx }) ∧
      t.descriptors = s.descriptors ∧ t.entries = s.entries ∧ t.mem = s.mem ∧
      t.lowMark = s.lowMark ∧ t.dormancyLimit = s.dormancyLimit ∧ t.arrival = s.arrival

/-- RETEST: on a port that is not the principal's it is refused NOT_PRINCIPAL, in TESTING refused TESTING,
with a message LIVE refused WRONG_STATE. Otherwise the mode becomes TESTING, the reply is DEFERRED in its
slot, and nothing else changes. -/
def Obligations.RetestBeginsATest : Prop :=
  ∀ (s : State) (p : PortId) (seq : Byte), Serves s p →
    ((s.port p).principal = false →
      exec (.retest p seq) s = .next (s.replied p Kind.retest seq .notPrincipal .none)) ∧
    ((s.port p).principal = true → s.mode = .testing →
      exec (.retest p seq) s = .next (s.replied p Kind.retest seq .testing .none)) ∧
    ((s.port p).principal = true → s.mode = .running → (∃ d, s.desc d ≠ none) →
      exec (.retest p seq) s = .next (s.replied p Kind.retest seq .wrongState .none)) ∧
    ((s.port p).principal = true → s.mode = .running → (∀ d, s.desc d = none) →
      exec (.retest p seq) s = .next
        (({ s with mode := .testing } : State).updPort p fun x =>
          { x with replies := x.replies ++ [⟨Kind.retest, seq, .deferred .retest⟩] }))

/-- CLEAR is refused NOT_PRINCIPAL on a port that is not the principal's and TESTING during a test. From the
principal in RUNNING every offer, entry, message and waiting report goes without outcome,
tally or report; every in-use buffer is free and the retired set as it was; every mailbox is FREE, every
member list empty with its group's policy kept; arming is set by the low mark; close replies are completed
in ascending order of mailbox id, and the CLEAR reply is last. A FREE mailbox stands at Mailbox.blank:
log 15. -/
def Obligations.ClearEmptiesTheExchange : Prop :=
  ∀ (s : State) (p : PortId) (seq : Byte), Serves s p →
    ((s.port p).principal = false →
      exec (.clear p seq) s = .next (s.replied p Kind.clear seq .notPrincipal .none)) ∧
    ((s.port p).principal = true → s.mode = .testing →
      exec (.clear p seq) s = .next (s.replied p Kind.clear seq .testing .none)) ∧
    ((s.port p).principal = true → s.mode = .running →
      ∃ t, exec (.clear p seq) s = .next t ∧
        (∀ e, t.entry e = none) ∧ (∀ d, t.desc d = none) ∧ (∀ m, t.mbx m = Mailbox.blank) ∧
        (∀ g, t.grp g = { s.grp g with members := [] }) ∧
        (∀ b, t.buffers.get b =
          if s.buffers.get b = .inUse then .free else s.buffers.get b) ∧
        t.poolArmed = decide (s.lowMark ≤ t.freeBuffers) ∧
        (∀ q, Told { s.port q with inFlight := [], prepared := none } (t.port q) fun ev =>
          ev = .poolLow ∧ t.freeBuffers < s.lowMark) ∧
        (∀ q, (t.port q).reports = [] ∧ (t.port q).lostReports = (s.port q).lostReports) ∧
        (∀ q, (t.port q).replies =
          ((List.finRange 32).foldl (fun x m =>
            if (s.mbx m).state = .closing ∧ (s.mbx m).closeReply.map (·.1) = some q then
              x.complete (.close m) (.closedMailbox m (s.mbx m).closeCount)
            else x) (s.port q)).replies ++
          if q = p then [⟨Kind.clear, seq, .ready .ok .none⟩] else []) ∧
        t.mem = s.mem ∧ t.registers = s.registers)

/-! ### Sessions -/

/-- ATTACH on an ANNOUNCED port with a window of 1 to 4 and an enable set: one act sets the epoch, window
and enables, clears the flags, the gate and the four counters, makes the port UP, and is answered OK with
the epoch, the port number and the principal flag. Nothing else changes. -/
def Obligations.AttachStartsASession : Prop :=
  ∀ (s : State) (p : PortId) (seq window enables : Byte), Hears s p → s.mode ≠ .fault →
    (s.port p).session = .announced → 1 ≤ window.toNat → window.toNat ≤ 4 →
    enables.msb = false →
    exec (.attach p seq window enables) s = .next
      ((s.updPort p fun x =>
        { x with
          epoch := s.chooseEpoch p, window := some window.toNat,
          enables := enables.setWidth 7, flags := 0#7, noticeOutstanding := false,
          noticeQueued := false, badFrames := 0#16, droppedCommands := 0#16,
          lostReports := 0#16, strayAnswers := 0#16, session := .up }).replied p Kind.attach seq .ok
        (.attached (s.chooseEpoch p) p (s.port p).principal))

/-- The epoch that ATTACH chooses: counting upward from the current one, with 65535 followed by 1, it is the
first value that no LIVE descriptor of the port carries, and never 0. -/
def Obligations.AttachChoosesTheFirstUnusedEpoch : Prop :=
  ∀ (s : State) (p : PortId), ∃ k, k ≤ 128 ∧
    s.chooseEpoch p = nextEpoch^[k + 1] (s.port p).epoch ∧ s.chooseEpoch p ≠ 0#16 ∧
    (∀ d x, s.desc d = some x → x.senderPort = p → x.senderEpoch ≠ s.chooseEpoch p) ∧
    ∀ j, j < k → ∃ d x, s.desc d = some x ∧ x.senderPort = p ∧
      x.senderEpoch = nextEpoch^[j + 1] (s.port p).epoch

/-- A session end is taken whole: the withdrawal of every offer with all that its resolutions bring, the
mailboxes, the link, reports and events, the window, the session state and PORT_DOWN. DETACH on an UP port
takes it and leaves the port ANNOUNCED; the OK reply, with the epoch that ends, is the one READY reply left.
BREAK_START on an UP port takes it and leaves the port DOWN with its line in break, nothing pending and its
receiver in HUNT. The model's readings: after DETACH a reply on the line keeps its slot (log 11) and HELLO
pending is kept (log 21); a FREE mailbox stands at Mailbox.blank (log 15); a frame stops in its last byte too
(log 26). -/
def Obligations.SessionEndIsTakenWhole : Prop :=
  ∀ (s : State) (p : PortId) (seq : Byte), Lawful s →
    (Serves s p →
      ∃ t, SessionEnded s t p .detach ∧
        exec (.detach p seq) s =
          .next (t.replied p Kind.detach seq .ok (.detached (s.port p).epoch))) ∧
    (s.inReset = false → (s.port p).session = .up → (s.port p).lineInBreak = false →
      ∃ t, SessionEnded (s.updPort p fun x => { x with lineInBreak := true }) t p .lineBreak ∧
        exec (.breakStart p) s =
          .next (t.updPort p fun x => { x with helloPending := false, receiver := .hunt }))

/-- BREAK_START on an ANNOUNCED port discards its link's traffic uncounted and leaves it DOWN; on a DOWN port
only line in break changes. BREAK_END on a line in break: after the start-up interval HELLO is pending and
the port ANNOUNCED; during it only line in break changes. The model's choice: a frame stops in its last byte
too (log 26). -/
def Obligations.BreaksWithoutASession : Prop :=
  ∀ (s : State) (p : PortId), s.inReset = false →
    ((s.port p).lineInBreak = false → (s.port p).session = .down →
      exec (.breakStart p) s = .next (s.updPort p fun x => { x with lineInBreak := true })) ∧
    ((s.port p).lineInBreak = false → (s.port p).session = .announced →
      exec (.breakStart p) s = .next (s.updPort p fun x =>
        { x with
          lineInBreak := true, session := .down, helloPending := false, replies := [],
          noticeQueued := false, prepared := none, receiver := .hunt
          tx := match x.tx with
            | .sending _ => .stopped
            | .idle => .idle
            | .stopped => .stopped })) ∧
    ((s.port p).lineInBreak = true →
      exec (.breakEnd p) s = .next (s.updPort p fun x =>
        if s.startUp then { x with lineInBreak := false }
        else
          { x with
            lineInBreak := false, helloPending := true, session := .announced,
            receiver := .hunt }))

/-! ### Queries -/

/-- The three queries are answered OK with the state as it stands and change nothing else. QUERY_POOL is
taken on an ANNOUNCED port and in FAULT too. QUERY_MAILBOX shows a FREE mailbox with every result other than
the state at 0 or no, and the dormancy time in whole seconds rounded up. A port number above 5 or a mailbox id above
31 is refused RANGE. -/
def Obligations.QueriesReadAndChangeNothing : Prop :=
  ∀ (s : State) (p : PortId) (seq : Byte),
    (Hears s p → exec (.queryPool p seq) s = .next (s.replied p Kind.queryPool seq .ok (.pool
      ⟨s.mode, s.goodCount,
        ((List.finRange 128).filter fun d => (s.desc d).isNone).length,
        ((List.finRange 256).filter fun e => (s.entry e).isNone).length,
        ((List.finRange 384).filter fun b => decide (s.buffers.get b = .free)).length,
        ((List.finRange 384).filter fun b => decide (s.buffers.get b = .retired)).length,
        s.lowMark, s.poolArmed, s.dormancyLimit⟩))) ∧
    (Serves s p → ∀ which : Byte, 5 < which.toNat →
      exec (.queryPort p seq which) s =
        .next (s.replied p Kind.queryPort seq .range .none)) ∧
    (Serves s p → ∀ id : Byte, 31 < id.toNat →
      exec (.queryMailbox p seq id) s =
        .next (s.replied p Kind.queryMailbox seq .range .none)) ∧
    (Serves s p → ∀ (which : Byte) (q : PortId), which.toNat = q.val →
      exec (.queryPort p seq which) s = .next (s.replied p Kind.queryPort seq .ok (.port
        ⟨q, (s.port q).session, (s.port q).epoch, (s.port q).principal,
          if (s.port q).session = .up then (s.port q).window.getD 0 else 0,
          (s.port q).inFlight.length,
          ((List.finRange 32).filter fun m =>
            decide ((s.mbx m).state ≠ .free ∧ (s.mbx m).owner = q)).length,
          ((List.finRange 32).filter fun m =>
            decide ((s.mbx m).state = .dormant ∧ (s.mbx m).owner = q)).length,
          (s.port q).badFrames, (s.port q).droppedCommands, (s.port q).lostReports,
          (s.port q).strayAnswers⟩))) ∧
    (Serves s p → ∀ (id : Byte) (m : MailboxId), id.toNat = m.val →
      exec (.queryMailbox p seq id) s = .next (s.replied p Kind.queryMailbox seq .ok (.mailbox
        (if (s.mbx m).state = .free then
          ⟨0, .free, 0, false, 0, 0, 0, 0, false, 0, 0, 0, false⟩
        else
          ⟨m, (s.mbx m).state, (s.mbx m).owner, (s.mbx m).held, (s.mbx m).depth,
            (s.mbx m).ackWindow, (s.mbx m).retryLimit, (s.mbx m).watermark, (s.mbx m).armed,
            (s.mbx m).queue.length, ((s.mbx m).queue.filter fun e => !s.isQueued e).length,
            match (s.mbx m).dormancyDeadline with
              | some t => (t - s.now + 999) / 1000
              | none => 0,
            (s.mbx m).closeReply.isSome⟩))))

/-! ### Mailboxes -/

/-- OPEN with settings in range makes the FREE mailbox it names OPEN, and with id 255 the FREE mailbox of
lowest id: owned by the port, not held, armed, its queue empty. It is answered OK with the id and the four
settings, and nothing else changes. -/
def Obligations.OpenMakesAMailboxOpen : Prop :=
  ∀ (s : State) (p : PortId) (seq id depth : Byte) (ackWindow : Half) (retry watermark : Byte)
    (m : MailboxId), Serves s p → 1 ≤ depth.toNat → depth.toNat ≤ 32 → 1 ≤ ackWindow.toNat →
    ackWindow.toNat ≤ 10000 → 1 ≤ retry.toNat → retry.toNat ≤ 15 →
    watermark.toNat ≤ depth.toNat → (s.mbx m).state = .free →
    (id.toNat = m.val ∨ (id = 255#8 ∧ ∀ n, n < m → (s.mbx n).state ≠ .free)) →
    exec (.openMailbox p seq id depth ackWindow retry watermark) s = .next
      ((s.updMbx m fun _ =>
        { Mailbox.blank with
          state := .opened, owner := p, held := false, depth := depth.toNat,
          ackWindow := ackWindow.toNat, retryLimit := retry.toNat,
          watermark := watermark.toNat, armed := true, queue := [] }).replied p Kind.openMailbox seq
        .ok (.openedMailbox m depth.toNat ackWindow.toNat retry.toNat watermark.toNat))

/-- HOLD sets and RESUME clears the held flag of the port's own OPEN mailbox, each answered OK with the id
and the queue length. RECLAIM of a DORMANT mailbox by its owner or by the principal makes it OPEN without a
deadline and owned by the reclaiming port, everything else of it kept. Nothing else changes. -/
def Obligations.HoldResumeAndReclaim : Prop :=
  ∀ (s : State) (p : PortId) (seq id : Byte) (m : MailboxId), Serves s p → id.toNat = m.val →
    ((s.mbx m).owner = p → (s.mbx m).state = .opened →
      exec (.hold p seq id) s = .next
        ((s.updMbx m fun x => { x with held := true }).replied p Kind.hold seq .ok
          (.queueLength m (s.mbx m).queue.length)) ∧
      exec (.resume p seq id) s = .next
        ((s.updMbx m fun x => { x with held := false }).replied p Kind.resume seq .ok
          (.queueLength m (s.mbx m).queue.length))) ∧
    ((s.mbx m).state = .dormant → ((s.mbx m).owner = p ∨ (s.port p).principal = true) →
      exec (.reclaim p seq id) s = .next
        ((s.updMbx m fun x =>
          { x with state := .opened, dormancyDeadline := none, owner := p }).replied p Kind.reclaim
          seq .ok (.reclaimed m (s.mbx m).queue.length (s.mbx m).held)))

/-- The checks that CLOSE, HOLD, RESUME and RECLAIM make on a mailbox, in their order, each refusal changing
nothing else. -/
def Obligations.MailboxCommandRefusals : Prop :=
  ∀ (s : State) (p : PortId) (seq id : Byte), Serves s p →
    (32 ≤ id.toNat →
      exec (.close p seq id) s = .next (s.replied p Kind.close seq .range .none) ∧
      exec (.hold p seq id) s = .next (s.replied p Kind.hold seq .range .none) ∧
      exec (.resume p seq id) s = .next (s.replied p Kind.resume seq .range .none) ∧
      exec (.reclaim p seq id) s = .next (s.replied p Kind.reclaim seq .range .none)) ∧
    ∀ m : MailboxId, id.toNat = m.val →
      ((s.mbx m).state = .free →
        exec (.close p seq id) s = .next (s.replied p Kind.close seq .noSuch .none) ∧
        exec (.hold p seq id) s = .next (s.replied p Kind.hold seq .noSuch .none) ∧
        exec (.resume p seq id) s = .next (s.replied p Kind.resume seq .noSuch .none) ∧
        exec (.reclaim p seq id) s = .next (s.replied p Kind.reclaim seq .noSuch .none)) ∧
      ((s.mbx m).state ≠ .free → (s.mbx m).owner ≠ p →
        exec (.close p seq id) s = .next (s.replied p Kind.close seq .notOwner .none) ∧
        exec (.hold p seq id) s = .next (s.replied p Kind.hold seq .notOwner .none) ∧
        exec (.resume p seq id) s = .next (s.replied p Kind.resume seq .notOwner .none)) ∧
      ((s.mbx m).state ≠ .free → (s.mbx m).owner ≠ p → (s.port p).principal = false →
        exec (.reclaim p seq id) s = .next (s.replied p Kind.reclaim seq .notOwner .none)) ∧
      ((s.mbx m).state = .closing → (s.mbx m).owner = p →
        exec (.close p seq id) s = .next (s.replied p Kind.close seq .wrongState .none)) ∧
      ((s.mbx m).state = .opened ∨ (s.mbx m).state = .closing →
        (s.mbx m).owner = p ∨ (s.port p).principal = true →
        exec (.reclaim p seq id) s = .next (s.replied p Kind.reclaim seq .wrongState .none)) ∧
      ((s.mbx m).state = .closing ∨ (s.mbx m).state = .dormant → (s.mbx m).owner = p →
        exec (.hold p seq id) s = .next (s.replied p Kind.hold seq .wrongState .none) ∧
        exec (.resume p seq id) s = .next (s.replied p Kind.resume seq .wrongState .none))

/-- The checks of OPEN, and those of FORCE_CLOSE by the principal, in their order, each refusal changing
nothing else. -/
def Obligations.OpenAndForceCloseRefusals : Prop :=
  ∀ (s : State) (p : PortId) (seq id depth : Byte) (ackWindow : Half) (retry watermark : Byte),
    Serves s p →
    ∀ (good : Prop) (r : Status → Prop),
      good = (1 ≤ depth.toNat ∧ depth.toNat ≤ 32 ∧ 1 ≤ ackWindow.toNat ∧
        ackWindow.toNat ≤ 10000 ∧ 1 ≤ retry.toNat ∧ retry.toNat ≤ 15 ∧
        watermark.toNat ≤ depth.toNat ∧ (id.toNat ≤ 31 ∨ id = 255#8)) →
      r = (fun st => exec (.openMailbox p seq id depth ackWindow retry watermark) s =
        .next (s.replied p Kind.openMailbox seq st .none)) →
    (¬good → r .range) ∧
    (good → ∀ m : MailboxId, id.toNat = m.val → (s.mbx m).state ≠ .free → r .wrongState) ∧
    (good → id = 255#8 → (∀ m, (s.mbx m).state ≠ .free) → r .noMailbox) ∧
    ((s.port p).principal = true →
      (31 < id.toNat →
        exec (.forceClose p seq id) s =
          .next (s.replied p Kind.forceClose seq .range .none)) ∧
      ∀ m : MailboxId, id.toNat = m.val →
        ((s.mbx m).state = .free →
          exec (.forceClose p seq id) s =
            .next (s.replied p Kind.forceClose seq .noSuch .none)) ∧
        ((s.mbx m).state = .closing →
          exec (.forceClose p seq id) s =
            .next (s.replied p Kind.forceClose seq .wrongState .none)))

/-- CLOSE of the port's own mailbox. OPEN: it leaves every group, its QUEUED entries are PURGED in queue order
as one cause, each message that this completes handing on its own report, and it is FREE at once with the OK reply, or CLOSING with its OFFERED entries and the reply
deferred. DORMANT: all its entries are PURGED in queue order, it leaves every group and is FREE, and the OK reply
carries their number. A FREE mailbox stands at Mailbox.blank: log 15. -/
def Obligations.CloseEndsTheMailbox : Prop :=
  ∀ (s : State) (p : PortId) (seq id : Byte) (m : MailboxId), Serves s p → Lawful s →
    id.toNat = m.val → (s.mbx m).owner = p →
    ((s.mbx m).state = .opened →
      ∃ t, Removed
          ((s.updMbx m fun x => { x with state := .closing, closeCount := 0 }).leaveGroups m) t
          ((s.mbx m).queue.filter s.isQueued) .purged ∧
        exec (.close p seq id) s = .next
          (if ∀ e ∈ (s.mbx m).queue, s.isQueued e = true then
            (t.updMbx m fun _ => Mailbox.blank).replied p Kind.close seq .ok
              (.closedMailbox m (s.mbx m).queue.length)
          else
            (t.updMbx m fun x => { x with closeReply := some (p, seq) }).updPort p fun x =>
              { x with replies := x.replies ++ [⟨Kind.close, seq, .deferred (.close m)⟩] })) ∧
    ((s.mbx m).state = .dormant →
      ∃ t, Removed s t (s.mbx m).queue .purged ∧
        exec (.close p seq id) s = .next
          (((t.leaveGroups m).updMbx m fun _ => Mailbox.blank).replied p Kind.close seq .ok
            (.closedMailbox m (s.mbx m).queue.length)))

/-- FORCE_CLOSE by the principal acts as a CLOSE of the same mailbox, whoever owns it, its reply owed to the
principal; MAILBOX_CLOSED is raised at the owner if that is another port and UP. A FREE mailbox stands at
Mailbox.blank: log 15. -/
def Obligations.ForceCloseClosesAnyMailbox : Prop :=
  ∀ (s : State) (p : PortId) (seq id : Byte) (m : MailboxId), Serves s p → Lawful s →
    (s.port p).principal = true → id.toNat = m.val →
    ∀ u, u = (if (s.mbx m).owner = p then s
      else s.updPort (s.mbx m).owner fun x => x.raise .mailboxClosed) →
    ((s.mbx m).state = .opened →
      ∃ t, Removed
          ((u.updMbx m fun x => { x with state := .closing, closeCount := 0 }).leaveGroups m) t
          ((s.mbx m).queue.filter s.isQueued) .purged ∧
        exec (.forceClose p seq id) s = .next
          (if ∀ e ∈ (s.mbx m).queue, s.isQueued e = true then
            (t.updMbx m fun _ => Mailbox.blank).replied p Kind.forceClose seq .ok
              (.closedMailbox m (s.mbx m).queue.length)
          else
            (t.updMbx m fun x => { x with closeReply := some (p, seq) }).updPort p fun x =>
              { x with
                replies := x.replies ++ [⟨Kind.forceClose, seq, .deferred (.close m)⟩] })) ∧
    ((s.mbx m).state = .dormant →
      ∃ t, Removed u t (s.mbx m).queue .purged ∧
        exec (.forceClose p seq id) s = .next
          (((t.leaveGroups m).updMbx m fun _ => Mailbox.blank).replied p Kind.forceClose seq .ok
            (.closedMailbox m (s.mbx m).queue.length)))

/-- The dormancy deadline of a DORMANT mailbox expires: its entries are PURGED in queue order, it leaves every
group and is FREE. The model's choices: the time base stands at the deadline at least (log 4), a FREE mailbox
at Mailbox.blank (log 15). -/
def Obligations.DormancyExpiryFreesTheMailbox : Prop :=
  ∀ (s : State) (m : MailboxId) (deadline : Nat), s.inReset = false → Lawful s →
    (s.mbx m).state = .dormant → (s.mbx m).dormancyDeadline = some deadline →
    ∃ t, Removed ({ s with now := max s.now deadline } : State) t (s.mbx m).queue .purged ∧
      exec (.dormancyExpiry m) s =
        .next ((t.leaveGroups m).updMbx m fun _ => Mailbox.blank)

/-! ### Sending and cancelling -/

/-- The fields of SEND. The range check passes exactly when the destination is at most 39, the class at most 3,
the report field no or yes, the lifetime at most 60000, the declared length at most 240 and the number of
payload bytes the declared length; the message then has the destination (0 to 31 a mailbox, 32 to 39 a group),
class, report wish, tag, lifetime and payload that the bytes encode. -/
def Obligations.SendRangeCheck : Prop :=
  ∀ (dest cls report : Byte) (tag lifetime : Half) (declared : Byte) (payload : List Byte),
    ((sendFields dest cls report tag lifetime declared payload).isSome = true ↔
      dest.toNat ≤ 39 ∧ cls.toNat ≤ 3 ∧ report.toNat ≤ 1 ∧ lifetime.toNat ≤ 60000 ∧
        declared.toNat ≤ 240 ∧ payload.length = declared.toNat) ∧
    ∀ f, sendFields dest cls report tag lifetime declared payload = some f →
      (∀ m : MailboxId, dest.toNat = m.val → f.dest = .unicast m) ∧
      (∀ g : GroupId, dest.toNat = 32 + g.val → f.dest = .fanOut g) ∧
      (cls = 0#8 → f.cls = .bulk) ∧ (cls = 1#8 → f.cls = .normal) ∧
      (cls = 2#8 → f.cls = .high) ∧ (cls = 3#8 → f.cls = .urgent) ∧
      (report = 0#8 → f.reportWanted = false) ∧ (report = 1#8 → f.reportWanted = true) ∧
      f.tag = tag ∧ f.lifetime = lifetime.toNat ∧ f.payload = payload

/-- The order of SEND's checks: TESTING, RANGE, DUP_TAG, then the destination's NO_SUCH, CLOSED or NO_ROUTE,
FULL, NO_DESCRIPTOR, NO_ENTRY and NO_BUFFER; the first that fails gives the status and nothing else
changes. -/
def Obligations.SendChecksInOrder : Prop :=
  ∀ (s : State) (p : PortId) (seq dest cls report : Byte) (tag lifetime : Half) (declared : Byte)
    (payload : List Byte), Serves s p → payload.length ≤ 240 →
    ∀ r : Status → Prop,
      r = (fun st => exec (.send p seq dest cls report tag lifetime declared payload) s =
        .next (s.replied p Kind.send seq st .none)) →
    (s.mode = .testing → r .testing) ∧
    (s.mode = .running → sendFields dest cls report tag lifetime declared payload = none →
      r .range) ∧
    ∀ f, s.mode = .running → sendFields dest cls report tag lifetime declared payload = some f →
      ((∃ d x, s.desc d = some x ∧ x.senderPort = p ∧ x.senderEpoch = (s.port p).epoch ∧
        x.tag = tag) → r .dupTag) ∧
      ((∀ d x, s.desc d = some x → x.senderPort = p → x.senderEpoch = (s.port p).epoch →
          x.tag ≠ tag) →
        (∀ m, f.dest = .unicast m →
          ((s.mbx m).state = .free → r .noSuch) ∧
          ((s.mbx m).state = .closing → r .closed) ∧
          ((s.mbx m).state = .opened ∨ (s.mbx m).state = .dormant →
            (s.mbx m).queue.length = (s.mbx m).depth → r .full)) ∧
        (∀ g, f.dest = .fanOut g →
          ((s.grp g).policy = none → r .noSuch) ∧
          ((s.grp g).policy ≠ none → (s.grp g).members = [] → r .noRoute) ∧
          ((s.grp g).policy = some .strict →
            (∃ m ∈ (s.grp g).members, (s.mbx m).queue.length = (s.mbx m).depth) → r .full) ∧
          ((s.grp g).policy = some .lenient → (s.grp g).members ≠ [] →
            (∀ m ∈ (s.grp g).members, (s.mbx m).queue.length = (s.mbx m).depth) → r .full)) ∧
        ∀ ts k, s.targets f.dest = .ok (ts, k) →
          ((∀ d, s.desc d ≠ none) → r .noDescriptor) ∧
          ((∃ d, s.desc d = none) → s.freeEntries < ts.length → r .noEntry) ∧
          ((∃ d, s.desc d = none) → ts.length ≤ s.freeEntries →
            s.freeBuffers < (payload.length + 63) / 64 → r .noBuffer))

/-- SEND to one OPEN or DORMANT mailbox with room, its tag not in use and the store's counts enough: the
message is accepted with one target, and the OK reply carries the new arrival sequence. -/
def Obligations.SendToAMailboxIsAccepted : Prop :=
  ∀ (s : State) (p : PortId) (seq dest cls report : Byte) (tag lifetime : Half) (declared : Byte)
    (payload : List Byte) (f : SendFields) (m : MailboxId), Serves s p → Lawful s →
    s.mem.wf = true → s.mode = .running →
    sendFields dest cls report tag lifetime declared payload = some f → f.dest = .unicast m →
    (∀ d x, s.desc d = some x → x.senderPort = p → x.senderEpoch = (s.port p).epoch →
      x.tag ≠ tag) →
    ((s.mbx m).state = .opened ∨ (s.mbx m).state = .dormant) →
    (s.mbx m).queue.length < (s.mbx m).depth → 1 ≤ s.freeDescriptors → 1 ≤ s.freeEntries →
    (payload.length + 63) / 64 ≤ s.freeBuffers →
    ∃ t i bufs es, Accepted s t p f [m] 0 i bufs es ∧
      exec (.send p seq dest cls report tag lifetime declared payload) s =
        .next (t.replied p Kind.send seq .ok (.sent (s.arrival + 1#32) 1 0))

/-- SEND to a DEFINED group with members: the targets are, in member-list order, every member under STRICT
when none is full, and the members with room under LENIENT, the full ones counted as skipped. -/
def Obligations.SendToAGroupIsAccepted : Prop :=
  ∀ (s : State) (p : PortId) (seq dest cls report : Byte) (tag lifetime : Half) (declared : Byte)
    (payload : List Byte) (f : SendFields) (g : GroupId) (ts : List MailboxId),
    Serves s p → Lawful s → s.mem.wf = true → s.mode = .running →
    sendFields dest cls report tag lifetime declared payload = some f → f.dest = .fanOut g →
    (∀ d x, s.desc d = some x → x.senderPort = p → x.senderEpoch = (s.port p).epoch →
      x.tag ≠ tag) →
    ts = (s.grp g).members.filter
      (fun m => decide ((s.mbx m).queue.length ≠ (s.mbx m).depth)) → ts ≠ [] →
    ((s.grp g).policy = some .lenient ∨
      ((s.grp g).policy = some .strict ∧ ts = (s.grp g).members)) →
    1 ≤ s.freeDescriptors → ts.length ≤ s.freeEntries →
    (payload.length + 63) / 64 ≤ s.freeBuffers →
    ∃ t i bufs es,
      Accepted s t p f ts ((s.grp g).members.length - ts.length) i bufs es ∧
      exec (.send p seq dest cls report tag lifetime declared payload) s =
        .next (t.replied p Kind.send seq .ok
          (.sent (s.arrival + 1#32) ts.length ((s.grp g).members.length - ts.length)))

/-- CANCEL of a LIVE message of this port and epoch: its QUEUED entries are CANCELLED in the order in which they
were created, which in the model is the order of their numbers (log 9); with none OFFERED the message has
completed, its report handed on, and the reply is OK, otherwise cancel requested is set and the reply is
PARTIAL with the count still in flight. -/
def Obligations.CancelTakesBackAMessage : Prop :=
  ∀ (s : State) (p : PortId) (seq : Byte) (tag : Half) (i : DescId) (d : Descriptor), Serves s p →
    Lawful s → s.tagsDistinct → s.desc i = some d → d.senderPort = p →
    d.senderEpoch = (s.port p).epoch → d.tag = tag →
    ∃ es t, es.Pairwise (· < ·) ∧
      (∀ e, e ∈ es ↔ ∃ en, s.entry e = some en ∧ en.descriptor = i ∧ en.offer = none) ∧
      Removed s t es .cancelled ∧
      exec (.cancel p seq tag) s = .next
        (if es.length = d.refCount then
          t.replied p Kind.cancel seq .ok (.cancelled d.sequence es.length)
        else
          (t.updDesc i fun x => { x with cancelRequested := true }).replied p Kind.cancel seq
            .partialCancel (.partlyCancelled d.sequence es.length (d.refCount - es.length)))

/-- ATTACH on an UP port is refused WRONG_STATE, and on an ANNOUNCED port with a window outside 1 to 4 or bit
7 of the enables at 1 it is refused RANGE. CANCEL of a tag that no LIVE message of this port and epoch carries
is refused NO_TAG. Nothing else changes. -/
def Obligations.AttachAndCancelRefusals : Prop :=
  ∀ (s : State) (p : PortId) (seq window enables : Byte) (tag : Half),
    (Serves s p →
      exec (.attach p seq window enables) s =
        .next (s.replied p Kind.attach seq .wrongState .none)) ∧
    (Hears s p → s.mode ≠ .fault → (s.port p).session = .announced →
      (window.toNat < 1 ∨ 4 < window.toNat ∨ enables.msb = true) →
      exec (.attach p seq window enables) s =
        .next (s.replied p Kind.attach seq .range .none)) ∧
    (Serves s p →
      (∀ d x, s.desc d = some x → x.senderPort = p → x.senderEpoch = (s.port p).epoch →
        x.tag ≠ tag) →
      exec (.cancel p seq tag) s = .next (s.replied p Kind.cancel seq .noTag .none))

/-- The lifetime deadline of a message expires: its QUEUED entries are EXPIRED in the order in which they were
created; with OFFERED ones left the deadline is gone and the expired flag set. The model's choices: the time
base stands at the deadline at least (log 4), the order of creation is that of the entries' numbers
(log 9). -/
def Obligations.LifetimeExpiryExpiresTheQueued : Prop :=
  ∀ (s : State) (i : DescId) (d : Descriptor) (deadline : Nat), s.inReset = false → Lawful s →
    s.desc i = some d → d.deadline = some deadline →
    ∃ es t, es.Pairwise (· < ·) ∧
      (∀ e, e ∈ es ↔ ∃ en, s.entry e = some en ∧ en.descriptor = i ∧ en.offer = none) ∧
      Removed ({ s with now := max s.now deadline } : State) t es .expired ∧
      exec (.lifetimeExpiry i) s = .next
        (if es.length = d.refCount then t
        else t.updDesc i fun x => { x with deadline := none, expired := true })

/-! ### Offers and answers -/

/-- A selection on an UP port with room in its window, no offer prepared or on the line, and a candidate: the
entry chosen has the highest class, within it the lowest arrival sequence, then the lowest mailbox id, then
the earliest place; it becomes OFFERED in phase SENDING with one attempt more and the first offer id from the
next one on that is not in flight, goes to the end of the list and is the prepared offer. Nothing else
changes. While a condition fails no selection is made; condition 3 is read from the prepared offer and the
transmitter (log 24). -/
def Obligations.SelectionOffersTheBestEntry : Prop :=
  ∀ (s : State) (p : PortId), s.inReset = false → Lawful s →
    ∀ (candidate : EntryId → Entry → Prop) (free : Prop), candidate = (fun e en =>
      s.entry e = some en ∧ en.offer = none ∧ (s.mbx en.mailbox).owner = p ∧
        (s.mbx en.mailbox).state = .opened ∧ (s.mbx en.mailbox).held = false) →
    free = ((s.port p).session = .up ∧
      (∃ w, (s.port p).window = some w ∧ (s.port p).inFlight.length < w) ∧
      (s.port p).prepared = none ∧ ∀ o, (s.port p).tx ≠ .sending (.offer o)) →
    (¬(free ∧ ∃ c cn, candidate c cn) → exec (.selection p) s = .next s) ∧
    ∀ c cn, free → candidate c cn → ∃ e en d, candidate e en ∧ s.desc en.descriptor = some d ∧
      (∀ f fn, candidate f fn → keyAhead (s.key f) (s.key e) = false ∧
        (s.key f = s.key e → en.mailbox ≤ fn.mailbox) ∧
        (s.key f = s.key e → en.mailbox = fn.mailbox →
          (s.mbx en.mailbox).queue.idxOf e ≤ (s.mbx en.mailbox).queue.idxOf f)) ∧
      ∃ k : Nat, k < 4 ∧
        (∀ j < k, some ((s.port p).nextOfferId + BitVec.ofNat 8 j) ∈
          (s.port p).inFlight.map s.offerIdOf) ∧
        some ((s.port p).nextOfferId + BitVec.ofNat 8 k) ∉
          (s.port p).inFlight.map s.offerIdOf ∧
        ∀ id, id = (s.port p).nextOfferId + BitVec.ofNat 8 k →
        exec (.selection p) s = .next
          ((s.setEntry e (some
            { en with
              attempts := en.attempts + 1, offer := some ⟨id, .sending⟩ })).updPort p fun x =>
            { x with
              inFlight := x.inFlight ++ [e], nextOfferId := id + 1#8
              prepared := some ⟨e,
                { id := id, mailbox := en.mailbox, senderPort := d.senderPort, cls := d.cls,
                  attempt := en.attempts + 1, tag := d.tag, sequence := d.sequence,
                  payload := s.mem.readPayload d.buffers d.length }⟩ })

/-- ACCEPT naming an AWAITING offer of its UP port resolves the entry DELIVERED, whatever the message's flags,
the mailbox's state and the attempts. A CLOSING mailbox that it empties is FREE; the model's choice: it stands
at Mailbox.blank (log 15). -/
def Obligations.AcceptDelivers : Prop :=
  ∀ (s : State) (p : PortId) (offer : Byte) (e : EntryId) (en : Entry) (d : Descriptor)
    (deadline : Nat), s.inReset = false → Lawful s → (s.port p).session = .up →
    e ∈ (s.port p).inFlight → s.entry e = some en →
    en.offer = some ⟨offer, .awaiting deadline⟩ → s.desc en.descriptor = some d →
    ∃ t, exec (.accept p offer) s = .next t ∧ Resolved s t e en d .delivered

/-- DECLINE naming an AWAITING offer of its UP port: with requeue no the entry is resolved DECLINED; with
requeue yes the offer counts as one attempt and the non-accepting table decides. The model's choice: a CLOSING
mailbox that is emptied and FREE stands at Mailbox.blank (log 15). -/
def Obligations.DeclineEndsOrRequeues : Prop :=
  ∀ (s : State) (p : PortId) (offer : Byte) (e : EntryId) (en : Entry) (d : Descriptor)
    (deadline : Nat), s.inReset = false → Lawful s → (s.port p).session = .up →
    e ∈ (s.port p).inFlight → s.entry e = some en →
    en.offer = some ⟨offer, .awaiting deadline⟩ → s.desc en.descriptor = some d →
    (∃ t, exec (.decline p offer 0#8) s = .next t ∧ Resolved s t e en d .declined) ∧
    ∃ t, exec (.decline p offer 1#8) s = .next t ∧ Unaccepted s t e en d

/-- The ack deadline of an AWAITING offer expires: the non-accepting table decides. The model's choices: the
time base stands at the deadline at least (log 4); a CLOSING mailbox that is emptied and FREE stands at
Mailbox.blank (log 15). -/
def Obligations.AckExpiryCountsAnAttempt : Prop :=
  ∀ (s : State) (p : PortId) (offer : Byte) (e : EntryId) (en : Entry) (d : Descriptor)
    (deadline : Nat), s.inReset = false → Lawful s → (s.port p).session = .up →
    e ∈ (s.port p).inFlight → s.entry e = some en →
    en.offer = some ⟨offer, .awaiting deadline⟩ → s.desc en.descriptor = some d →
    ∃ t, exec (.ackDeadlineExpiry p offer) s = .next t ∧
      Unaccepted { s with now := max s.now deadline } t e en d

/-- A stray answer raises the port's stray-answers counter by one, unless it stands at 65535, and has no other
effect: on an ANNOUNCED port; naming an id that no AWAITING entry of an UP port's list carries; a DECLINE
whose requeue field is neither no nor yes. On a DOWN port an answer has no effect at all. -/
def Obligations.StrayAnswersAreCounted : Prop :=
  ∀ (s : State) (p : PortId) (offer requeue : Byte), s.inReset = false →
    ∀ u, u = s.updPort p (fun x =>
      { x with
        strayAnswers := if x.strayAnswers = 0xFFFF#16 then 0xFFFF#16 else x.strayAnswers + 1#16 }) →
    ((s.port p).session = .down →
      exec (.accept p offer) s = .next s ∧ exec (.decline p offer requeue) s = .next s) ∧
    ((s.port p).session = .announced →
      exec (.accept p offer) s = .next u ∧ exec (.decline p offer requeue) s = .next u) ∧
    ((s.port p).session = .up →
      (∀ e ∈ (s.port p).inFlight, ∀ en deadline, s.entry e = some en →
        en.offer ≠ some ⟨offer, .awaiting deadline⟩) →
      exec (.accept p offer) s = .next u ∧ exec (.decline p offer requeue) s = .next u) ∧
    ((s.port p).session = .up → 2 ≤ requeue.toNat →
      exec (.decline p offer requeue) s = .next u)

/-- The summary outcome of a tally: no outcome has a larger count, and each earlier outcome of the order
DELIVERED, DECLINED, EXPIRED, EXHAUSTED, CANCELLED, PURGED has a smaller one. Where every target has one
outcome, one target or several, it is that outcome. -/
def Obligations.SummaryIsTheLargestCount : Prop :=
  ∀ t : Tally, (∀ o, t.count o ≤ t.count t.summary) ∧
    (∀ o, o.code.toNat < t.summary.code.toNat → t.count o < t.count t.summary) ∧
    ∀ o, 1 ≤ t.sum → t.count o = t.sum → t.summary = o

/-! ### Groups -/

/-- GROUP_DEFINE gives an UNDEFINED group the policy, 0 STRICT or 1 LENIENT, and an empty list, and a DEFINED
one the policy with its list kept; the reply carries the group as it then stands. -/
def Obligations.GroupDefineSetsThePolicy : Prop :=
  ∀ (s : State) (p : PortId) (seq gid policy : Byte) (g : GroupId) (pol : Policy), Serves s p →
    (s.port p).principal = true → gid.toNat = 32 + g.val →
    ((policy = 0#8 ∧ pol = .strict) ∨ (policy = 1#8 ∧ pol = .lenient)) →
    ∀ members, members = (if (s.grp g).policy = none then [] else (s.grp g).members) →
    exec (.groupDefine p seq gid policy) s = .next
      ((s.updGrp g fun _ => { policy := some pol, members := members }).replied p Kind.groupDefine
        seq .ok (.group g (some pol) members))

/-- On a DEFINED group GROUP_ADD of an OPEN or DORMANT mailbox that is no member of fewer than 8 appends it at
the tail, GROUP_REMOVE takes a member out, the others closing up in their order, and GROUP_DELETE empties the
group and makes it UNDEFINED; each reply carries the group as it then stands. -/
def Obligations.GroupAddRemoveDelete : Prop :=
  ∀ (s : State) (p : PortId) (seq gid id : Byte) (g : GroupId) (m : MailboxId), Serves s p →
    (s.port p).principal = true → gid.toNat = 32 + g.val → id.toNat = m.val →
    (s.grp g).policy ≠ none → s.groupsLawful →
    (m ∉ (s.grp g).members → (s.grp g).members.length < 8 →
      ((s.mbx m).state = .opened ∨ (s.mbx m).state = .dormant) →
      exec (.groupAdd p seq gid id) s = .next
        ((s.updGrp g fun x => { x with members := x.members ++ [m] }).replied p Kind.groupAdd seq
          .ok (.group g (s.grp g).policy ((s.grp g).members ++ [m])))) ∧
    (m ∈ (s.grp g).members →
      exec (.groupRemove p seq gid id) s = .next
        ((s.updGrp g fun x => { x with members := x.members.erase m }).replied p Kind.groupRemove
          seq .ok (.group g (s.grp g).policy ((s.grp g).members.erase m)))) ∧
    exec (.groupDelete p seq gid) s = .next
      ((s.updGrp g fun _ => { policy := none, members := [] }).replied p Kind.groupDelete seq .ok
        (.group g none []))

/-- The checks of the group commands after the principal check, in their order, each refusal changing nothing
else. -/
def Obligations.GroupCommandRefusals : Prop :=
  ∀ (s : State) (p : PortId) (seq gid id policy : Byte), Serves s p →
    (s.port p).principal = true →
    ((gid.toNat < 32 ∨ 39 < gid.toNat ∨ 1 < policy.toNat) →
      exec (.groupDefine p seq gid policy) s =
        .next (s.replied p Kind.groupDefine seq .range .none)) ∧
    ((gid.toNat < 32 ∨ 39 < gid.toNat ∨ 31 < id.toNat) →
      exec (.groupAdd p seq gid id) s = .next (s.replied p Kind.groupAdd seq .range .none) ∧
      exec (.groupRemove p seq gid id) s =
        .next (s.replied p Kind.groupRemove seq .range .none)) ∧
    ((gid.toNat < 32 ∨ 39 < gid.toNat) →
      exec (.groupDelete p seq gid) s =
        .next (s.replied p Kind.groupDelete seq .range .none)) ∧
    ∀ (g : GroupId) (m : MailboxId), gid.toNat = 32 + g.val → id.toNat = m.val →
      ((s.grp g).policy = none →
        exec (.groupAdd p seq gid id) s = .next (s.replied p Kind.groupAdd seq .noSuch .none) ∧
        exec (.groupRemove p seq gid id) s =
          .next (s.replied p Kind.groupRemove seq .noSuch .none) ∧
        exec (.groupDelete p seq gid) s =
          .next (s.replied p Kind.groupDelete seq .noSuch .none)) ∧
      ((s.grp g).policy ≠ none → m ∉ (s.grp g).members →
        exec (.groupRemove p seq gid id) s =
          .next (s.replied p Kind.groupRemove seq .noSuch .none)) ∧
      ((s.grp g).policy ≠ none → (s.mbx m).state = .free →
        exec (.groupAdd p seq gid id) s = .next (s.replied p Kind.groupAdd seq .noSuch .none)) ∧
      ((s.grp g).policy ≠ none → (s.mbx m).state = .closing →
        exec (.groupAdd p seq gid id) s = .next (s.replied p Kind.groupAdd seq .closed .none)) ∧
      ((s.grp g).policy ≠ none →
        ((s.mbx m).state = .opened ∨ (s.mbx m).state = .dormant) →
        (m ∈ (s.grp g).members →
          exec (.groupAdd p seq gid id) s =
            .next (s.replied p Kind.groupAdd seq .wrongState .none)) ∧
        (m ∉ (s.grp g).members → (s.grp g).members.length = 8 →
          exec (.groupAdd p seq gid id) s = .next (s.replied p Kind.groupAdd seq .full .none)))

/-! ### Events and configuration -/

/-- A raise at an UP port makes the flag pending and evaluates the notice condition: with the gate open and an
enabled flag pending a notice is queued and the gate closes. At any other port nothing happens. -/
def Obligations.RaiseQueuesOneNotice : Prop :=
  ∀ (s : State) (p q : PortId) (e : Event),
    ((s.port p).session ≠ .up → s.raise e p = s) ∧
    ((s.port p).session = .up → s.raise e p = s.updPort p fun x =>
      if x.noticeOutstanding = false ∧ (x.flags ||| e.bit) &&& x.enables ≠ 0#7 then
        { x with flags := x.flags ||| e.bit, noticeQueued := true, noticeOutstanding := true }
      else { x with flags := x.flags ||| e.bit }) ∧
    (q ≠ p → (s.raise e p).port q = s.port q)

/-- SET_EVENTS with bit 7 at 0: the enables become the given set, the pending flags stay, and with the gate
open and an enabled flag pending a notice is queued; the reply carries the enables and the pending set.
With bit 7 at 1 it is refused RANGE. READ_EVENTS: the reply carries the pending set, every flag is cleared, a
notice not yet begun is discarded and the gate opens. -/
def Obligations.EventCommandsActOnTheUnit : Prop :=
  ∀ (s : State) (p : PortId) (seq enables : Byte), Serves s p →
    (enables.msb = false → exec (.setEvents p seq enables) s = .next
      ((s.updPort p fun x =>
        if x.noticeOutstanding = false ∧ x.flags &&& enables.setWidth 7 ≠ 0#7 then
          { x with
            enables := enables.setWidth 7, noticeQueued := true, noticeOutstanding := true }
        else { x with enables := enables.setWidth 7 }).replied p Kind.setEvents seq .ok
        (.events (enables.setWidth 7) (s.port p).flags))) ∧
    (enables.msb = true → exec (.setEvents p seq enables) s =
      .next (s.replied p Kind.setEvents seq .range .none)) ∧
    exec (.readEvents p seq) s = .next
      ((s.updPort p fun x =>
        { x with flags := 0#7, noticeQueued := false, noticeOutstanding := false }).replied p
        Kind.readEvents seq .ok (.pending (s.port p).flags))

/-- CONFIGURE on a port that is not the principal's is refused NOT_PRINCIPAL, and above either limit RANGE.
From the principal with a low mark up to 384 and a limit up to 3600 both take the command's values and arming
is evaluated against the free count, a crossing raising POOL_LOW at every UP port. -/
def Obligations.ConfigureSetsBothSettings : Prop :=
  ∀ (s : State) (p : PortId) (seq : Byte) (low dormancy : Half), Serves s p →
    ((s.port p).principal = false →
      exec (.configure p seq low dormancy) s =
        .next (s.replied p Kind.configure seq .notPrincipal .none)) ∧
    ((s.port p).principal = true → low.toNat ≤ 384 → dormancy.toNat ≤ 3600 →
      ∀ u : State, u = { s with
        lowMark := low.toNat, dormancyLimit := dormancy.toNat
        poolArmed := decide (low.toNat ≤ s.freeBuffers) } →
      exec (.configure p seq low dormancy) s = .next
        ((if s.poolArmed = true ∧ s.freeBuffers < low.toNat then u.raiseAll .poolLow
          else u).replied p Kind.configure seq .ok (.configured low.toNat dormancy.toNat))) ∧
    ((s.port p).principal = true → 384 < low.toNat ∨ 3600 < dormancy.toNat →
      exec (.configure p seq low dormancy) s =
        .next (s.replied p Kind.configure seq .range .none))

/-! ### The link -/

/-- Decoding gives back every well-formed host frame that was encoded, and a good frame of any bytes decodes
to the frame it was encoded as or to MALFORMED. -/
def Obligations.HostFramesRoundTrip : Prop :=
  (∀ (c : Instr) (f : HostFrame), c.wellFormed = true → encodeFrame c = some f →
    decodeFrame f.port f.kind f.seq f.body = c) ∧
  ∀ (p : PortId) (kind seq : Byte) (body : List Byte),
    decodeFrame p kind seq body = .malformed p kind seq ∨
      encodeFrame (decodeFrame p kind seq body) =
        some ⟨p, kind, if kind = Kind.accept ∨ kind = Kind.decline then 0#8 else seq, body⟩

/-- Frames as bytes and bytes as bits. Out: a frame of the part is SYNC, LEN (two more than the body length), KIND, SEQ,
body and CHECK over LEN to body, high byte first; SEQ is echoed in a REPLY and 0 elsewhere; the bodies of
HELLO, REPLY with its results, OFFER, REPORT and EVENT hold their fields in the order of the tables, numbers
high byte first and quantities by their encodings. A byte is a character of ten bit times: low, eight data
bits from the least significant on, high; the characters of a frame just begun stand back to back, and the line is
high where no frame has a bit. In: of the levels of a receive line, one a bit time (log 22), high levels on the
idle line do nothing and a character does what BYTE_TAKEN of its byte does. A low stop bit is a framing fault:
the byte is taken all the same, with its data bits as read (0 where all were low), and then no start bit is
taken, however long the line stays low, until it has been high for a bit time. -/
def Obligations.FramesAndCharactersOnTheLine : Prop :=
  ∀ (n : Nat → Byte) (two : BitVec 16 → List Byte) (four : BitVec 32 → List Byte)
    (yes : Bool → Byte) (set : EventSet → Byte), n = (fun k => BitVec.ofNat 8 k) →
    two = (fun h => [n (h.toNat / 256), n (h.toNat % 256)]) →
    four = (fun w =>
      two (BitVec.ofNat 16 (w.toNat / 65536)) ++ two (BitVec.ofNat 16 (w.toNat % 65536))) →
    yes = (fun b => if b then 1#8 else 0#8) → set = (fun e => n e.toNat) →
    ∀ num : Nat → List Byte, num = (fun k => two (BitVec.ofNat 16 k)) →
    (∀ f : Frame, ∃ checked, checked = n (f.body.length + 2) :: f.kind :: f.seq :: f.body ∧
      f.wire = 0xC9#8 :: (checked ++ two (crc checked))) ∧
    (∀ h : HelloFrame, (Frame.hello h).kind = 0x80#8 ∧ (Frame.hello h).seq = 0#8 ∧
      (Frame.hello h).body =
        [0x06#8, 0x32#8, 1#8, n h.port.val, yes h.principal, h.mode.code] ++ num h.goodCount ++
          [n h.rate.toNat]) ∧
    (∀ kind seq st res, (Frame.reply kind seq st res).kind = 0x81#8 ∧
      (Frame.reply kind seq st res).seq = seq ∧
      (Frame.reply kind seq st res).body = [kind, st.code] ++ res.bytes) ∧
    (∀ o : OfferFrame, (Frame.offer o).kind = 0x82#8 ∧ (Frame.offer o).seq = 0#8 ∧
      (Frame.offer o).body =
        [o.id, n o.mailbox.val, n o.senderPort.val, n o.cls.rank, n o.attempt] ++ two o.tag ++
          four o.sequence ++ o.payload) ∧
    (∀ r : Report, (Frame.report r).kind = 0x83#8 ∧ (Frame.report r).seq = 0#8 ∧
      (Frame.report r).body =
        two r.tag ++ four r.sequence ++
          [r.summary.code, n r.targets, n r.skipped, n r.tally.delivered, n r.tally.declined,
            n r.tally.expired, n r.tally.exhausted, n r.tally.cancelled, n r.tally.purged]) ∧
    (∀ e, (Frame.event e).kind = 0x84#8 ∧ (Frame.event e).seq = 0#8 ∧
      (Frame.event e).body = [set e]) ∧
    Results.none.bytes = [] ∧
    (∀ epoch p pr, (Results.attached epoch p pr).bytes = two epoch ++ [n p.val, yes pr]) ∧
    (∀ epoch, (Results.detached epoch).bytes = two epoch) ∧
    (∀ m d a r w, (Results.openedMailbox m d a r w).bytes =
      [n m.val, n d] ++ num a ++ [n r, n w]) ∧
    (∀ m k, (Results.closedMailbox m k).bytes = [n m.val, n k] ∧
      (Results.queueLength m k).bytes = [n m.val, n k]) ∧
    (∀ m k held, (Results.reclaimed m k held).bytes = [n m.val, n k, yes held]) ∧
    (∀ v, (Results.mailbox v).bytes =
      [n v.id.val, v.state.code, n v.owner.val, yes v.held, n v.depth] ++ num v.ackWindow ++
        [n v.retryLimit, n v.watermark, yes v.armed, n v.length, n v.offered] ++
        num v.dormancyRemaining ++ [yes v.closePending]) ∧
    (∀ q a b, (Results.sent q a b).bytes = four q ++ [n a, n b] ∧
      (Results.cancelled q a).bytes = four q ++ [n a] ∧
      (Results.partlyCancelled q a b).bytes = four q ++ [n a, n b]) ∧
    (∀ a b, (Results.events a b).bytes = [set a, set b] ∧ (Results.pending a).bytes = [set a]) ∧
    (∀ v, (Results.pool v).bytes =
      v.mode.code :: num v.goodCount ++ [n v.freeDescriptors] ++ num v.freeEntries ++
        num v.freeBuffers ++ num v.retiredBuffers ++ num v.lowMark ++ [yes v.armed] ++
        num v.dormancyLimit) ∧
    (∀ v, (Results.port v).bytes =
      [n v.port.val, v.session.code] ++ two v.epoch ++
        [yes v.principal, n v.window, n v.inFlight, n v.owned, n v.dormant] ++ two v.badFrames ++
        two v.droppedCommands ++ two v.lostReports ++ two v.strayAnswers) ∧
    (∀ a b, (Results.configured a b).bytes = num a ++ num b ∧
      (Results.retested a).bytes = num a) ∧
    (∀ g ms, (Results.group g none ms).bytes =
        [n (32 + g.val), 0#8, 0#8, n ms.length] ++ ms.map (fun m => n m.val) ∧
      (Results.group g (some .strict) ms).bytes =
        [n (32 + g.val), 1#8, 0#8, n ms.length] ++ ms.map (fun m => n m.val) ∧
      (Results.group g (some .lenient) ms).bytes =
        [n (32 + g.val), 1#8, 1#8, n ms.length] ++ ms.map (fun m => n m.val)) ∧
    [Status.ok, .malformed, .range, .notAttached, .notPrincipal, .notOwner, .noSuch, .wrongState,
      .closed, .full, .noRoute, .noMailbox, .noDescriptor, .noEntry, .noBuffer, .dupTag, .noTag,
      .partialCancel, .testing, .faulted].map Status.code = (List.range 20).map n ∧
    [MailboxState.free, .opened, .closing, .dormant].map MailboxState.code =
      (List.range 4).map n ∧
    [Session.down, .announced, .up].map Session.code = (List.range 3).map n ∧
    [Mode.testing, .running, .fault].map Mode.code = (List.range 3).map n ∧
    [EntryOutcome.delivered, .declined, .expired, .exhausted, .cancelled, .purged].map
      EntryOutcome.code = (List.range 6).map n ∧
    [MessageClass.bulk, .normal, .high, .urgent].map MessageClass.rank = List.range 4 ∧
    (∀ b : Byte, character b =
      [false, b.getLsbD 0, b.getLsbD 1, b.getLsbD 2, b.getLsbD 3, b.getLsbD 4, b.getLsbD 5,
        b.getLsbD 6, b.getLsbD 7, true]) ∧
    ∀ (s : State) (p : PortId),
      (∀ f, (s.port p).tx = .sending f → (s.port p).txd = ⟨0, []⟩ →
        (∀ k b j, f.wire[k]? = some b → j < 10 →
          some (s.txLevel p (10 * k + j)) = (character b)[j]?) ∧
        ∀ k, 10 * (f.body.length + 6) ≤ k → s.txLevel p k = true) ∧
      ((∀ f, (s.port p).tx ≠ .sending f) → (s.port p).txd.rest = [] →
        ∀ k, s.txLevel p k = true) ∧
      ∀ (b : Byte) (k : Nat) (u : State), s.inReset = false →
        u = (s.updPort p fun x => { x with line := .holdOff }) →
        ((s.port p).line = .idle →
          takeLevels p (List.replicate k true) s = .next s ∧
          takeLevels p (character b) s = exec (.byteTaken p b) s ∧
          takeLevels p ((character b).dropLast ++ [false]) s = exec (.byteTaken p b) u ∧
          takeLevels p (List.replicate 10 false) s = exec (.byteTaken p 0#8) u) ∧
        takeLevels p (List.replicate k false) u = .next u ∧
        takeLevels p (List.replicate k false ++ [true]) u =
          .next (s.updPort p fun x => { x with line := .idle })

/-- The bytes of a whole frame, taken one after the other on a port that is not DOWN and hunts, do what the
frame's command does, in the act of the last byte: log 7. -/
def Obligations.FrameBytesReachTheMeaning : Prop :=
  ∀ (s : State) (p : PortId) (kind seq : Byte) (body : List Byte), s.inReset = false →
    (s.port p).session ≠ .down → (s.port p).receiver = .hunt → body.length ≤ 251 →
    takeBytes p (wireFrame kind seq body) s = exec (decodeFrame p kind seq body) s

/-- BYTE_TAKEN by the receiver's table: a DOWN port ignores every byte; in HUNT only 0xC9 begins a frame; a
LEN outside 2 to 253 discards it; body bytes are stored until the count is reached; the first CHECK byte is
kept; a second CHECK byte that does not match discards it. -/
def Obligations.ByteTakenFollowsTheReceiverTable : Prop :=
  ∀ (s : State) (p : PortId) (b : Byte), s.inReset = false →
    ((s.port p).session = .down → exec (.byteTaken p b) s = .next s) ∧
    ((s.port p).session ≠ .down →
      ((s.port p).receiver = .hunt → b ≠ 0xC9#8 → exec (.byteTaken p b) s = .next s) ∧
      ((s.port p).receiver = .hunt → b = 0xC9#8 →
        exec (.byteTaken p b) s = .next (s.updPort p fun x => { x with receiver := .length })) ∧
      ((s.port p).receiver = .length → 2 ≤ b.toNat → b.toNat ≤ 253 →
        exec (.byteTaken p b) s =
          .next (s.updPort p fun x => { x with receiver := .body b.toNat [b] })) ∧
      ((s.port p).receiver = .length → (b.toNat < 2 ∨ 253 < b.toNat) →
        exec (.byteTaken p b) s = .next (s.updPort p fun x =>
          Port.raise { x with receiver := .hunt, badFrames := bump x.badFrames } .linkError)) ∧
      (∀ n stored, (s.port p).receiver = .body (n + 2) stored →
        exec (.byteTaken p b) s =
          .next (s.updPort p fun x => { x with receiver := .body (n + 1) (stored ++ [b]) })) ∧
      (∀ stored, (s.port p).receiver = .body 1 stored →
        exec (.byteTaken p b) s =
          .next (s.updPort p fun x => { x with receiver := .check (stored ++ [b]) none })) ∧
      (∀ stored, (s.port p).receiver = .check stored none →
        exec (.byteTaken p b) s =
          .next (s.updPort p fun x => { x with receiver := .check stored (some b) })) ∧
      ∀ stored high, (s.port p).receiver = .check stored (some high) → crc stored ≠ half high b →
        exec (.byteTaken p b) s = .next (s.updPort p fun x =>
          Port.raise { x with receiver := .hunt, badFrames := bump x.badFrames } .linkError))

/-- On a port that is not DOWN. FRAME_DISCARD, and GAP_EXPIRY inside a frame: the bad-frames counter rises by
one unless it stands at 65535, LINK_ERROR is raised if the port is UP, and the receiver is in HUNT; in HUNT a
gap has no effect (log 5). MALFORMED takes a reply slot and its reply is READY at once with the frame's KIND and SEQ;
with four replies owed it is dropped. -/
def Obligations.UnusableFrames : Prop :=
  ∀ (s : State) (p : PortId) (kind seq : Byte), s.inReset = false → (s.port p).session ≠ .down →
    ∀ u, u = (s.updPort p fun x =>
      { x with
        receiver := .hunt
        badFrames := if x.badFrames = 0xFFFF#16 then 0xFFFF#16 else x.badFrames + 1#16 }).raise
      .linkError p →
    exec (.frameDiscard p) s = .next u ∧
    ((s.port p).receiver ≠ .hunt → exec (.gapExpiry p) s = .next u) ∧
    ((s.port p).receiver = .hunt → exec (.gapExpiry p) s = .next s) ∧
    ((s.port p).replies.length < 4 →
      exec (.malformed p kind seq) s = .next (s.replied p kind seq .malformed .none)) ∧
    (4 ≤ (s.port p).replies.length →
      exec (.malformed p kind seq) s = .next (s.updPort p fun x =>
        Port.raise { x with droppedCommands := bump x.droppedCommands } .overrun))

/-- The arbiter of a port with an idle transmitter begins the first that waits of HELLO, the oldest READY
reply, the EVENT notice, the report at the head and the prepared offer, and changes just what beginning that
frame changes; with nothing waiting, or with the transmitter busy, nothing changes (log 5). -/
def Obligations.ArbiterBeginsTheFirstWaiting : Prop :=
  ∀ (s : State) (p : PortId) (x : Port), s.inReset = false → x = s.port p →
    ∀ begun : (Port → Port) → Prop,
      begun = (fun f => exec (.arbiterBeginFrame p) s = .next (s.updPort p f)) →
    (x.tx ≠ .idle → begun id) ∧
    (x.tx = .idle → x.helloPending = true → begun fun y =>
      { y with
        helloPending := false
        tx := .sending (.hello ⟨p, y.principal, s.mode, s.goodCount, s.rate⟩) }) ∧
    (x.tx = .idle → x.helloPending = false →
      (∀ a r b st res, x.replies = a ++ r :: b → (∀ y ∈ a, y.isReady = false) →
        r.state = .ready st res → begun fun y =>
          { y with
            replies := a ++ { r with state := .sending } :: b
            tx := .sending (.reply r.kind r.seq st res) }) ∧
      ((∀ r ∈ x.replies, r.isReady = false) →
        (x.noticeQueued = true → begun fun y =>
          { y with noticeQueued := false, tx := .sending (.event y.flags) }) ∧
        (x.noticeQueued = false →
          (∀ r rest, x.reports = r :: rest → begun fun y =>
            { y with reports := rest, tx := .sending (.report r) }) ∧
          (x.reports = [] →
            (∀ pr, x.prepared = some pr → begun fun y =>
              { y with tx := .sending (.offer pr.frame) }) ∧
            (x.prepared = none → begun id)))))

/-- A frame on the line. Bit time after bit time its characters pass, `j` bits of character `k` after `10 k + j`
of them, and nothing else changes; stopped then, the line carries the rest of the character under way and is
high from there on; after the last stop bit the act of the last byte is taken. That act: a REPLY empties its
slot, an OFFER's entry is AWAITING with its deadline one ack window ahead and the port has no prepared offer,
the transmitter is free, and the arbiter decides in the same act. After CLEAR an OFFER's last byte sets no phase.
The end of the 3 ms idle after a stopped frame frees the transmitter likewise. With no frame on the line, or
after a stop, there is no last byte, and without a stop no such idle (log 5). The model's choices: a level is a
bit time (log 22); a stop between two characters sends nothing more, one in the last byte sends that byte
(log 26). -/
def Obligations.LastByteEndsTheFrame : Prop :=
  ∀ (s : State) (p : PortId), s.inReset = false →
    (∀ f, (s.port p).tx = .sending f → (s.port p).txd = ⟨0, []⟩ →
      (∀ k b j, f.wire[k]? = some b → j < 10 →
        ∃ t, passLevels p (10 * k + j) s = .next t ∧
          t = s.updPort p (fun x =>
            { x with txd := if j = 0 then ⟨k, []⟩ else ⟨k + 1, (character b).drop j⟩ }) ∧
          (∀ i, t.txLevel p i = s.txLevel p (10 * k + j + i)) ∧
          ∀ i, (t.updPort p fun x => { x with tx := .stopped }).txLevel p i =
            if 0 < j ∧ i < 10 - j then s.txLevel p (10 * k + j + i) else true) ∧
      passLevels p (10 * (f.body.length + 6)) s =
        exec (.frameLastByteSent p)
          (s.updPort p fun x => { x with txd := ⟨f.body.length + 6, []⟩ })) ∧
    ((∀ f, (s.port p).tx ≠ .sending f) → exec (.frameLastByteSent p) s = .next s) ∧
    ((s.port p).tx ≠ .stopped → exec (.stoppedFrameIdleEnd p) s = .next s) ∧
    ((s.port p).tx = .stopped →
      ∃ t, exec (.stoppedFrameIdleEnd p) s = .next t ∧
        exec (.arbiterBeginFrame p) (s.updPort p fun x => { x with tx := .idle, txd := ⟨0, []⟩ }) = .next t) ∧
    (∀ k q st res, (s.port p).tx = .sending (.reply k q st res) →
      ∃ t, exec (.frameLastByteSent p) s = .next t ∧
        exec (.arbiterBeginFrame p) (s.updPort p fun x =>
          { x with
            tx := .idle, txd := ⟨0, []⟩
            replies := x.replies.filter fun r => decide (r.state ≠ .sending) }) =
          .next t) ∧
    (∀ f, (s.port p).tx = .sending f → f.kind ≠ Kind.reply → f.kind ≠ Kind.offer →
      ∃ t, exec (.frameLastByteSent p) s = .next t ∧
        exec (.arbiterBeginFrame p) (s.updPort p fun x => { x with tx := .idle, txd := ⟨0, []⟩ }) = .next t) ∧
    (∀ o, (s.port p).tx = .sending (.offer o) → (s.port p).prepared = none →
      ∃ t, exec (.frameLastByteSent p) s = .next t ∧
        exec (.arbiterBeginFrame p) (s.updPort p fun x => { x with tx := .idle, txd := ⟨0, []⟩ }) = .next t) ∧
    ∀ o pr en id ph, (s.port p).tx = .sending (.offer o) → (s.port p).prepared = some pr →
      s.entry pr.entry = some en → en.offer = some ⟨id, ph⟩ →
      ∃ t, exec (.frameLastByteSent p) s = .next t ∧
        exec (.arbiterBeginFrame p)
          ((s.setEntry pr.entry (some
            { en with
              offer := some ⟨id, .awaiting (s.now + (s.mbx en.mailbox).ackWindow)⟩ })).updPort p
            fun x => { x with tx := .idle, txd := ⟨0, []⟩, prepared := none }) = .next t

/-- A completed deferred reply keeps its KIND and SEQ, is READY with status OK and stands after every reply
that was READY before. -/
def Obligations.CompletedReplyStandsLast : Prop :=
  ∀ (x : Port) (a : Awaited) (res : Results) (ahead behind : List Reply) (r : Reply),
    x.replies = ahead ++ r :: behind → r.state = .deferred a →
    (∀ y ∈ ahead ++ behind, y.state ≠ .deferred a) →
    x.complete a res =
      { x with replies := ahead ++ behind ++ [⟨r.kind, r.seq, .ready .ok res⟩] }

/-! ### Invariants -/

/-- Right after reset every law holds. State.reset is the model's choice of straps: log 1. -/
def Obligations.ResetIsLawful : Prop :=
  Lawful State.reset ∧ State.reset.tagsDistinct ∧ BufferLaw State.reset ∧
    State.reset.mem.wf = true

/-- Every step keeps the laws of the port records (slots, report queue, window, gate, what a port that is not
UP holds, a broken line's port DOWN) together with the laws of the exchange mode. -/
def Obligations.StepKeepsPortsAndMode : Prop :=
  ∀ s t : State, s.portsLawful → ModeLaw s → step s = .next t → t.portsLawful ∧ ModeLaw t

/-- Every step keeps the group table's law: no list holds a mailbox twice or one that is neither OPEN nor
DORMANT. -/
def Obligations.StepKeepsTheGroupLaw : Prop :=
  ∀ s t : State, s.groupsLawful → step s = .next t → t.groupsLawful

/-- Every step keeps the tag law: no two LIVE messages carry the same sender port, epoch and tag. -/
def Obligations.StepKeepsTagsDistinct : Prop :=
  ∀ s t : State, s.tagsDistinct → step s = .next t → t.tagsDistinct

/-- Every step keeps the buffer pool's account, the mode law holding: each in-use buffer is on the list of
exactly one LIVE message, which holds ceil(length/64) of them, and after the first test pool-low arming is
armed exactly when the free count is at or above the low mark. -/
def Obligations.StepKeepsTheBufferLaw : Prop :=
  ∀ s t : State, ModeLaw s → BufferLaw s → step s = .next t → BufferLaw t

/-- Every step keeps the canonical form of the buffer pool's bytes. The form (cells in rising order inside the
pool, none that holds what an unlisted byte reads as) is the model's own representation of the 384 buffers
of 64 bytes: log 10. -/
def Obligations.StepKeepsTheMemoryForm : Prop :=
  ∀ s t : State, s.mem.wf = true → step s = .next t → t.mem.wf = true

/-- Every step keeps all the laws of ports, mode, groups and store together: reference counts and tallies,
queue order, attempts within the retry limit, mailbox settings in range, in-flight lists, offers, closing
and dormant mailboxes. -/
def Obligations.StepKeepsTheExchangeLawful : Prop :=
  ∀ s t : State, Lawful s → step s = .next t → Lawful t

/-- No step but POWER_ON and RESET_ASSERTED leaves FAULT, and none but those changes which port is
principal. -/
def Obligations.FaultAndPrincipalAreKept : Prop :=
  ∀ (c : Instr) (s t : State), (∀ a b, c ≠ .powerOn a b) → c ≠ .resetAsserted →
    exec c s = .next t →
    (s.mode = .fault → t.mode = .fault) ∧ (∀ p, (t.port p).principal = (s.port p).principal) ∧
      t.rate = s.rate
end

