-- ==== Sys2Proof/Laws/Table.lean ====
section
/-! SUPPORT. What a table reads after it is written: the one place that opens `Table`. -/

namespace Sys2Proof.Machine

variable {α : Type} {n : Nat}

/-- Two tables that read alike are equal. -/
theorem Table.ext_get {t u : Table α n} (h : ∀ i, t.get i = u.get i) : t = u := by
  obtain ⟨a, ha⟩ := t
  obtain ⟨b, hb⟩ := u
  have : a = b := by
    apply List.ext_getElem (by rw [ha, hb])
    intro i h1 _
    exact h ⟨i, ha ▸ h1⟩
  subst this
  rfl

@[simp] theorem Table.get_set_self (t : Table α n) (i : Fin n) (a : α) : (t.set i a).get i = a := by
  simp [Table.get, Table.set]

theorem Table.get_set_ne (t : Table α n) {i j : Fin n} (a : α) (h : j ≠ i) :
    (t.set i a).get j = t.get j := by
  have : i.val ≠ j.val := fun e => h (Fin.ext e.symm)
  simp [Table.get, Table.set, this]

/-- Reading any record after one is written. -/
theorem Table.get_set (t : Table α n) (i j : Fin n) (a : α) :
    (t.set i a).get j = if j = i then a else t.get j := by
  by_cases h : j = i
  · subst h; simp
  · simp [h, Table.get_set_ne t a h]

@[simp] theorem Table.get_modify_self (t : Table α n) (i : Fin n) (f : α → α) :
    (t.modify i f).get i = f (t.get i) := by
  simp [Table.modify]

theorem Table.get_modify_ne (t : Table α n) {i j : Fin n} (f : α → α) (h : j ≠ i) :
    (t.modify i f).get j = t.get j :=
  Table.get_set_ne t _ h

/-- Reading any record after one is changed. -/
theorem Table.get_modify (t : Table α n) (i j : Fin n) (f : α → α) :
    (t.modify i f).get j = if j = i then f (t.get j) else t.get j := by
  by_cases h : j = i
  · subst h; simp
  · simp [h, Table.get_modify_ne t f h]

@[simp] theorem Table.get_map (t : Table α n) (f : α → α) (i : Fin n) :
    (t.map f).get i = f (t.get i) := by
  simp [Table.get, Table.map]

@[simp] theorem Table.get_replicate (a : α) (i : Fin n) : (Table.replicate n a).get i = a := by
  simp [Table.get, Table.replicate]

@[simp] theorem Table.get_ofFn (f : Fin n → α) (i : Fin n) : (Table.ofFn f).get i = f i := by
  simp [Table.get, Table.ofFn]

@[simp] theorem Table.set_get_self (t : Table α n) (i : Fin n) : t.set i (t.get i) = t :=
  Table.ext_get fun j => by
    rw [Table.get_set]
    split <;> simp_all

@[simp] theorem Table.set_set (t : Table α n) (i : Fin n) (a b : α) :
    (t.set i a).set i b = t.set i b :=
  Table.ext_get fun j => by
    simp only [Table.get_set]
    split <;> rfl

@[simp] theorem Table.modify_modify (t : Table α n) (i : Fin n) (f g : α → α) :
    (t.modify i f).modify i g = t.modify i fun x => g (f x) := by
  simp [Table.modify]

/-- A change that leaves the record as it is leaves the table as it is. -/
theorem Table.modify_eq_self (t : Table α n) (i : Fin n) (f : α → α) (h : f (t.get i) = t.get i) :
    t.modify i f = t := by
  simp [Table.modify, h]

/-- The records listed as satisfying a test are those that do. -/
@[simp] theorem Table.mem_indices (t : Table α n) (p : α → Bool) (i : Fin n) :
    i ∈ t.indices p ↔ p (t.get i) = true := by
  simp [Table.indices, List.mem_finRange]

/-- The record found satisfies the test, and none before it does. -/
theorem Table.first_eq_some {t : Table α n} {p : α → Bool} {i : Fin n} (h : t.first p = some i) :
    p (t.get i) = true ∧ ∀ j, j < i → p (t.get j) = false := by
  obtain ⟨hp, as, bs, hl, hn⟩ := List.find?_eq_some_iff_append.1 h
  refine ⟨hp, fun j hj => ?_⟩
  have hs : (List.finRange n).Pairwise (· < ·) := List.pairwise_lt_finRange n
  have hm : j ∈ as ++ i :: bs := hl ▸ List.mem_finRange j
  rw [hl] at hs
  rcases List.mem_append.1 hm with ha | hb
  · simpa using hn j ha
  · rcases List.mem_cons.1 hb with rfl | hb
    · exact absurd hj (lt_irrefl _)
    · exact absurd hj (not_lt.2 (le_of_lt (List.rel_of_pairwise_cons
        (List.pairwise_append.1 hs).2.1 hb)))

/-- No record is found exactly when none satisfies the test. -/
theorem Table.first_eq_none {t : Table α n} {p : α → Bool} :
    t.first p = none ↔ ∀ i, p (t.get i) = false := by
  simp [Table.first, List.find?_eq_none, List.mem_finRange]

/-- The count of a test is the number of the records listed as satisfying it. -/
theorem Table.count_eq_length_indices (t : Table α n) (p : α → Bool) :
    t.count p = (t.indices p).length := by
  have hi : t.items = (List.finRange n).map t.get := by
    apply List.ext_getElem (by simp [t.size])
    intro i h1 h2
    simp [Table.get]
  rw [Table.count, Table.indices, hi, List.countP_map, List.countP_eq_length_filter]
  rfl

/-- A table of like records counts all of them or none. -/
theorem Table.count_replicate (a : α) (p : α → Bool) :
    (Table.replicate n a).count p = if p a = true then n else 0 := by
  simp [Table.count, Table.replicate, List.countP_replicate]

/-- Replacing one record moves a count by that record alone. -/
theorem Table.count_set (t : Table α n) (i : Fin n) (a : α) (p : α → Bool) :
    (t.set i a).count p + (if p (t.get i) = true then 1 else 0) =
      t.count p + if p a = true then 1 else 0 := by
  have hi : i.val < t.items.length := by rw [t.size]; exact i.isLt
  have h : (t.set i a).count p =
      t.items.countP p - (if p (t.get i) = true then 1 else 0) + if p a = true then 1 else 0 :=
    List.countP_set hi
  rw [h]
  by_cases hp : p (t.get i) = true
  · have : 0 < t.items.countP p := List.countP_pos_iff.2 ⟨_, List.getElem_mem hi, hp⟩
    rw [if_pos hp]
    simp only [Table.count]
    omega
  · rw [if_neg hp]
    rfl

/-- One record among like records that do not count. -/
theorem Table.count_one (a b : α) (i : Fin n) (p : α → Bool) (h : p a = false) :
    ((Table.replicate n a).set i b).count p = if p b = true then 1 else 0 := by
  have := Table.count_set (Table.replicate n a) i b p
  simpa [Table.count_replicate, h] using this

end Sys2Proof.Machine
end

