-- ==== Sys2Proof/Laws/State.lean ====
section
/-! SUPPORT. One lemma for each field of State under each update, and what each record reads after it, so
that no proof unfolds a record update. -/

namespace Sys2Proof.Machine

variable (s : State)

/-! ### updPort -/

@[simp] theorem State.updPort_now (p : PortId) (f : Port → Port) :
    (s.updPort p f).now = s.now := rfl
@[simp] theorem State.updPort_inReset (p : PortId) (f : Port → Port) :
    (s.updPort p f).inReset = s.inReset := rfl
@[simp] theorem State.updPort_mode (p : PortId) (f : Port → Port) :
    (s.updPort p f).mode = s.mode := rfl
@[simp] theorem State.updPort_goodCount (p : PortId) (f : Port → Port) :
    (s.updPort p f).goodCount = s.goodCount := rfl
@[simp] theorem State.updPort_startUp (p : PortId) (f : Port → Port) :
    (s.updPort p f).startUp = s.startUp := rfl
@[simp] theorem State.updPort_rate (p : PortId) (f : Port → Port) :
    (s.updPort p f).rate = s.rate := rfl
@[simp] theorem State.updPort_lowMark (p : PortId) (f : Port → Port) :
    (s.updPort p f).lowMark = s.lowMark := rfl
@[simp] theorem State.updPort_dormancyLimit (p : PortId) (f : Port → Port) :
    (s.updPort p f).dormancyLimit = s.dormancyLimit := rfl
@[simp] theorem State.updPort_poolArmed (p : PortId) (f : Port → Port) :
    (s.updPort p f).poolArmed = s.poolArmed := rfl
@[simp] theorem State.updPort_arrival (p : PortId) (f : Port → Port) :
    (s.updPort p f).arrival = s.arrival := rfl
@[simp] theorem State.updPort_descriptors (p : PortId) (f : Port → Port) :
    (s.updPort p f).descriptors = s.descriptors := rfl
@[simp] theorem State.updPort_entries (p : PortId) (f : Port → Port) :
    (s.updPort p f).entries = s.entries := rfl
@[simp] theorem State.updPort_buffers (p : PortId) (f : Port → Port) :
    (s.updPort p f).buffers = s.buffers := rfl
@[simp] theorem State.updPort_mem (p : PortId) (f : Port → Port) :
    (s.updPort p f).mem = s.mem := rfl
@[simp] theorem State.updPort_mailboxes (p : PortId) (f : Port → Port) :
    (s.updPort p f).mailboxes = s.mailboxes := rfl
@[simp] theorem State.updPort_groups (p : PortId) (f : Port → Port) :
    (s.updPort p f).groups = s.groups := rfl
@[simp] theorem State.updPort_ports (p : PortId) (f : Port → Port) :
    (s.updPort p f).ports = s.ports.modify p f := rfl
@[simp] theorem State.updPort_pending (p : PortId) (f : Port → Port) :
    (s.updPort p f).pending = s.pending := rfl

/-! ### allPorts -/

@[simp] theorem State.allPorts_now (f : Port → Port) :
    (s.allPorts f).now = s.now := rfl
@[simp] theorem State.allPorts_inReset (f : Port → Port) :
    (s.allPorts f).inReset = s.inReset := rfl
@[simp] theorem State.allPorts_mode (f : Port → Port) :
    (s.allPorts f).mode = s.mode := rfl
@[simp] theorem State.allPorts_goodCount (f : Port → Port) :
    (s.allPorts f).goodCount = s.goodCount := rfl
@[simp] theorem State.allPorts_startUp (f : Port → Port) :
    (s.allPorts f).startUp = s.startUp := rfl
@[simp] theorem State.allPorts_rate (f : Port → Port) :
    (s.allPorts f).rate = s.rate := rfl
@[simp] theorem State.allPorts_lowMark (f : Port → Port) :
    (s.allPorts f).lowMark = s.lowMark := rfl
@[simp] theorem State.allPorts_dormancyLimit (f : Port → Port) :
    (s.allPorts f).dormancyLimit = s.dormancyLimit := rfl
@[simp] theorem State.allPorts_poolArmed (f : Port → Port) :
    (s.allPorts f).poolArmed = s.poolArmed := rfl
@[simp] theorem State.allPorts_arrival (f : Port → Port) :
    (s.allPorts f).arrival = s.arrival := rfl
@[simp] theorem State.allPorts_descriptors (f : Port → Port) :
    (s.allPorts f).descriptors = s.descriptors := rfl
@[simp] theorem State.allPorts_entries (f : Port → Port) :
    (s.allPorts f).entries = s.entries := rfl
@[simp] theorem State.allPorts_buffers (f : Port → Port) :
    (s.allPorts f).buffers = s.buffers := rfl
@[simp] theorem State.allPorts_mem (f : Port → Port) :
    (s.allPorts f).mem = s.mem := rfl
@[simp] theorem State.allPorts_mailboxes (f : Port → Port) :
    (s.allPorts f).mailboxes = s.mailboxes := rfl
@[simp] theorem State.allPorts_groups (f : Port → Port) :
    (s.allPorts f).groups = s.groups := rfl
@[simp] theorem State.allPorts_ports (f : Port → Port) :
    (s.allPorts f).ports = s.ports.map f := rfl
@[simp] theorem State.allPorts_pending (f : Port → Port) :
    (s.allPorts f).pending = s.pending := rfl

/-! ### updMbx -/

@[simp] theorem State.updMbx_now (m : MailboxId) (f : Mailbox → Mailbox) :
    (s.updMbx m f).now = s.now := rfl
@[simp] theorem State.updMbx_inReset (m : MailboxId) (f : Mailbox → Mailbox) :
    (s.updMbx m f).inReset = s.inReset := rfl
@[simp] theorem State.updMbx_mode (m : MailboxId) (f : Mailbox → Mailbox) :
    (s.updMbx m f).mode = s.mode := rfl
@[simp] theorem State.updMbx_goodCount (m : MailboxId) (f : Mailbox → Mailbox) :
    (s.updMbx m f).goodCount = s.goodCount := rfl
@[simp] theorem State.updMbx_startUp (m : MailboxId) (f : Mailbox → Mailbox) :
    (s.updMbx m f).startUp = s.startUp := rfl
@[simp] theorem State.updMbx_rate (m : MailboxId) (f : Mailbox → Mailbox) :
    (s.updMbx m f).rate = s.rate := rfl
@[simp] theorem State.updMbx_lowMark (m : MailboxId) (f : Mailbox → Mailbox) :
    (s.updMbx m f).lowMark = s.lowMark := rfl
@[simp] theorem State.updMbx_dormancyLimit (m : MailboxId) (f : Mailbox → Mailbox) :
    (s.updMbx m f).dormancyLimit = s.dormancyLimit := rfl
@[simp] theorem State.updMbx_poolArmed (m : MailboxId) (f : Mailbox → Mailbox) :
    (s.updMbx m f).poolArmed = s.poolArmed := rfl
@[simp] theorem State.updMbx_arrival (m : MailboxId) (f : Mailbox → Mailbox) :
    (s.updMbx m f).arrival = s.arrival := rfl
@[simp] theorem State.updMbx_descriptors (m : MailboxId) (f : Mailbox → Mailbox) :
    (s.updMbx m f).descriptors = s.descriptors := rfl
@[simp] theorem State.updMbx_entries (m : MailboxId) (f : Mailbox → Mailbox) :
    (s.updMbx m f).entries = s.entries := rfl
@[simp] theorem State.updMbx_buffers (m : MailboxId) (f : Mailbox → Mailbox) :
    (s.updMbx m f).buffers = s.buffers := rfl
@[simp] theorem State.updMbx_mem (m : MailboxId) (f : Mailbox → Mailbox) :
    (s.updMbx m f).mem = s.mem := rfl
@[simp] theorem State.updMbx_mailboxes (m : MailboxId) (f : Mailbox → Mailbox) :
    (s.updMbx m f).mailboxes = s.mailboxes.modify m f := rfl
@[simp] theorem State.updMbx_groups (m : MailboxId) (f : Mailbox → Mailbox) :
    (s.updMbx m f).groups = s.groups := rfl
@[simp] theorem State.updMbx_ports (m : MailboxId) (f : Mailbox → Mailbox) :
    (s.updMbx m f).ports = s.ports := rfl
@[simp] theorem State.updMbx_pending (m : MailboxId) (f : Mailbox → Mailbox) :
    (s.updMbx m f).pending = s.pending := rfl

/-! ### updGrp -/

@[simp] theorem State.updGrp_now (g : GroupId) (f : Group → Group) :
    (s.updGrp g f).now = s.now := rfl
@[simp] theorem State.updGrp_inReset (g : GroupId) (f : Group → Group) :
    (s.updGrp g f).inReset = s.inReset := rfl
@[simp] theorem State.updGrp_mode (g : GroupId) (f : Group → Group) :
    (s.updGrp g f).mode = s.mode := rfl
@[simp] theorem State.updGrp_goodCount (g : GroupId) (f : Group → Group) :
    (s.updGrp g f).goodCount = s.goodCount := rfl
@[simp] theorem State.updGrp_startUp (g : GroupId) (f : Group → Group) :
    (s.updGrp g f).startUp = s.startUp := rfl
@[simp] theorem State.updGrp_rate (g : GroupId) (f : Group → Group) :
    (s.updGrp g f).rate = s.rate := rfl
@[simp] theorem State.updGrp_lowMark (g : GroupId) (f : Group → Group) :
    (s.updGrp g f).lowMark = s.lowMark := rfl
@[simp] theorem State.updGrp_dormancyLimit (g : GroupId) (f : Group → Group) :
    (s.updGrp g f).dormancyLimit = s.dormancyLimit := rfl
@[simp] theorem State.updGrp_poolArmed (g : GroupId) (f : Group → Group) :
    (s.updGrp g f).poolArmed = s.poolArmed := rfl
@[simp] theorem State.updGrp_arrival (g : GroupId) (f : Group → Group) :
    (s.updGrp g f).arrival = s.arrival := rfl
@[simp] theorem State.updGrp_descriptors (g : GroupId) (f : Group → Group) :
    (s.updGrp g f).descriptors = s.descriptors := rfl
@[simp] theorem State.updGrp_entries (g : GroupId) (f : Group → Group) :
    (s.updGrp g f).entries = s.entries := rfl
@[simp] theorem State.updGrp_buffers (g : GroupId) (f : Group → Group) :
    (s.updGrp g f).buffers = s.buffers := rfl
@[simp] theorem State.updGrp_mem (g : GroupId) (f : Group → Group) :
    (s.updGrp g f).mem = s.mem := rfl
@[simp] theorem State.updGrp_mailboxes (g : GroupId) (f : Group → Group) :
    (s.updGrp g f).mailboxes = s.mailboxes := rfl
@[simp] theorem State.updGrp_groups (g : GroupId) (f : Group → Group) :
    (s.updGrp g f).groups = s.groups.modify g f := rfl
@[simp] theorem State.updGrp_ports (g : GroupId) (f : Group → Group) :
    (s.updGrp g f).ports = s.ports := rfl
@[simp] theorem State.updGrp_pending (g : GroupId) (f : Group → Group) :
    (s.updGrp g f).pending = s.pending := rfl

/-! ### setDesc -/

@[simp] theorem State.setDesc_now (d : DescId) (x : Option Descriptor) :
    (s.setDesc d x).now = s.now := rfl
@[simp] theorem State.setDesc_inReset (d : DescId) (x : Option Descriptor) :
    (s.setDesc d x).inReset = s.inReset := rfl
@[simp] theorem State.setDesc_mode (d : DescId) (x : Option Descriptor) :
    (s.setDesc d x).mode = s.mode := rfl
@[simp] theorem State.setDesc_goodCount (d : DescId) (x : Option Descriptor) :
    (s.setDesc d x).goodCount = s.goodCount := rfl
@[simp] theorem State.setDesc_startUp (d : DescId) (x : Option Descriptor) :
    (s.setDesc d x).startUp = s.startUp := rfl
@[simp] theorem State.setDesc_rate (d : DescId) (x : Option Descriptor) :
    (s.setDesc d x).rate = s.rate := rfl
@[simp] theorem State.setDesc_lowMark (d : DescId) (x : Option Descriptor) :
    (s.setDesc d x).lowMark = s.lowMark := rfl
@[simp] theorem State.setDesc_dormancyLimit (d : DescId) (x : Option Descriptor) :
    (s.setDesc d x).dormancyLimit = s.dormancyLimit := rfl
@[simp] theorem State.setDesc_poolArmed (d : DescId) (x : Option Descriptor) :
    (s.setDesc d x).poolArmed = s.poolArmed := rfl
@[simp] theorem State.setDesc_arrival (d : DescId) (x : Option Descriptor) :
    (s.setDesc d x).arrival = s.arrival := rfl
@[simp] theorem State.setDesc_descriptors (d : DescId) (x : Option Descriptor) :
    (s.setDesc d x).descriptors = s.descriptors.set d x := rfl
@[simp] theorem State.setDesc_entries (d : DescId) (x : Option Descriptor) :
    (s.setDesc d x).entries = s.entries := rfl
@[simp] theorem State.setDesc_buffers (d : DescId) (x : Option Descriptor) :
    (s.setDesc d x).buffers = s.buffers := rfl
@[simp] theorem State.setDesc_mem (d : DescId) (x : Option Descriptor) :
    (s.setDesc d x).mem = s.mem := rfl
@[simp] theorem State.setDesc_mailboxes (d : DescId) (x : Option Descriptor) :
    (s.setDesc d x).mailboxes = s.mailboxes := rfl
@[simp] theorem State.setDesc_groups (d : DescId) (x : Option Descriptor) :
    (s.setDesc d x).groups = s.groups := rfl
@[simp] theorem State.setDesc_ports (d : DescId) (x : Option Descriptor) :
    (s.setDesc d x).ports = s.ports := rfl
@[simp] theorem State.setDesc_pending (d : DescId) (x : Option Descriptor) :
    (s.setDesc d x).pending = s.pending := rfl

/-! ### setEntry -/

@[simp] theorem State.setEntry_now (e : EntryId) (x : Option Entry) :
    (s.setEntry e x).now = s.now := rfl
@[simp] theorem State.setEntry_inReset (e : EntryId) (x : Option Entry) :
    (s.setEntry e x).inReset = s.inReset := rfl
@[simp] theorem State.setEntry_mode (e : EntryId) (x : Option Entry) :
    (s.setEntry e x).mode = s.mode := rfl
@[simp] theorem State.setEntry_goodCount (e : EntryId) (x : Option Entry) :
    (s.setEntry e x).goodCount = s.goodCount := rfl
@[simp] theorem State.setEntry_startUp (e : EntryId) (x : Option Entry) :
    (s.setEntry e x).startUp = s.startUp := rfl
@[simp] theorem State.setEntry_rate (e : EntryId) (x : Option Entry) :
    (s.setEntry e x).rate = s.rate := rfl
@[simp] theorem State.setEntry_lowMark (e : EntryId) (x : Option Entry) :
    (s.setEntry e x).lowMark = s.lowMark := rfl
@[simp] theorem State.setEntry_dormancyLimit (e : EntryId) (x : Option Entry) :
    (s.setEntry e x).dormancyLimit = s.dormancyLimit := rfl
@[simp] theorem State.setEntry_poolArmed (e : EntryId) (x : Option Entry) :
    (s.setEntry e x).poolArmed = s.poolArmed := rfl
@[simp] theorem State.setEntry_arrival (e : EntryId) (x : Option Entry) :
    (s.setEntry e x).arrival = s.arrival := rfl
@[simp] theorem State.setEntry_descriptors (e : EntryId) (x : Option Entry) :
    (s.setEntry e x).descriptors = s.descriptors := rfl
@[simp] theorem State.setEntry_entries (e : EntryId) (x : Option Entry) :
    (s.setEntry e x).entries = s.entries.set e x := rfl
@[simp] theorem State.setEntry_buffers (e : EntryId) (x : Option Entry) :
    (s.setEntry e x).buffers = s.buffers := rfl
@[simp] theorem State.setEntry_mem (e : EntryId) (x : Option Entry) :
    (s.setEntry e x).mem = s.mem := rfl
@[simp] theorem State.setEntry_mailboxes (e : EntryId) (x : Option Entry) :
    (s.setEntry e x).mailboxes = s.mailboxes := rfl
@[simp] theorem State.setEntry_groups (e : EntryId) (x : Option Entry) :
    (s.setEntry e x).groups = s.groups := rfl
@[simp] theorem State.setEntry_ports (e : EntryId) (x : Option Entry) :
    (s.setEntry e x).ports = s.ports := rfl
@[simp] theorem State.setEntry_pending (e : EntryId) (x : Option Entry) :
    (s.setEntry e x).pending = s.pending := rfl

/-! ### updDesc -/

@[simp] theorem State.updDesc_now (d : DescId) (f : Descriptor → Descriptor) :
    (s.updDesc d f).now = s.now := rfl
@[simp] theorem State.updDesc_inReset (d : DescId) (f : Descriptor → Descriptor) :
    (s.updDesc d f).inReset = s.inReset := rfl
@[simp] theorem State.updDesc_mode (d : DescId) (f : Descriptor → Descriptor) :
    (s.updDesc d f).mode = s.mode := rfl
@[simp] theorem State.updDesc_goodCount (d : DescId) (f : Descriptor → Descriptor) :
    (s.updDesc d f).goodCount = s.goodCount := rfl
@[simp] theorem State.updDesc_startUp (d : DescId) (f : Descriptor → Descriptor) :
    (s.updDesc d f).startUp = s.startUp := rfl
@[simp] theorem State.updDesc_rate (d : DescId) (f : Descriptor → Descriptor) :
    (s.updDesc d f).rate = s.rate := rfl
@[simp] theorem State.updDesc_lowMark (d : DescId) (f : Descriptor → Descriptor) :
    (s.updDesc d f).lowMark = s.lowMark := rfl
@[simp] theorem State.updDesc_dormancyLimit (d : DescId) (f : Descriptor → Descriptor) :
    (s.updDesc d f).dormancyLimit = s.dormancyLimit := rfl
@[simp] theorem State.updDesc_poolArmed (d : DescId) (f : Descriptor → Descriptor) :
    (s.updDesc d f).poolArmed = s.poolArmed := rfl
@[simp] theorem State.updDesc_arrival (d : DescId) (f : Descriptor → Descriptor) :
    (s.updDesc d f).arrival = s.arrival := rfl
@[simp] theorem State.updDesc_descriptors (d : DescId) (f : Descriptor → Descriptor) :
    (s.updDesc d f).descriptors = s.descriptors.set d ((s.desc d).map f) := rfl
@[simp] theorem State.updDesc_entries (d : DescId) (f : Descriptor → Descriptor) :
    (s.updDesc d f).entries = s.entries := rfl
@[simp] theorem State.updDesc_buffers (d : DescId) (f : Descriptor → Descriptor) :
    (s.updDesc d f).buffers = s.buffers := rfl
@[simp] theorem State.updDesc_mem (d : DescId) (f : Descriptor → Descriptor) :
    (s.updDesc d f).mem = s.mem := rfl
@[simp] theorem State.updDesc_mailboxes (d : DescId) (f : Descriptor → Descriptor) :
    (s.updDesc d f).mailboxes = s.mailboxes := rfl
@[simp] theorem State.updDesc_groups (d : DescId) (f : Descriptor → Descriptor) :
    (s.updDesc d f).groups = s.groups := rfl
@[simp] theorem State.updDesc_ports (d : DescId) (f : Descriptor → Descriptor) :
    (s.updDesc d f).ports = s.ports := rfl
@[simp] theorem State.updDesc_pending (d : DescId) (f : Descriptor → Descriptor) :
    (s.updDesc d f).pending = s.pending := rfl

/-! ### updEntry -/

@[simp] theorem State.updEntry_now (e : EntryId) (f : Entry → Entry) :
    (s.updEntry e f).now = s.now := rfl
@[simp] theorem State.updEntry_inReset (e : EntryId) (f : Entry → Entry) :
    (s.updEntry e f).inReset = s.inReset := rfl
@[simp] theorem State.updEntry_mode (e : EntryId) (f : Entry → Entry) :
    (s.updEntry e f).mode = s.mode := rfl
@[simp] theorem State.updEntry_goodCount (e : EntryId) (f : Entry → Entry) :
    (s.updEntry e f).goodCount = s.goodCount := rfl
@[simp] theorem State.updEntry_startUp (e : EntryId) (f : Entry → Entry) :
    (s.updEntry e f).startUp = s.startUp := rfl
@[simp] theorem State.updEntry_rate (e : EntryId) (f : Entry → Entry) :
    (s.updEntry e f).rate = s.rate := rfl
@[simp] theorem State.updEntry_lowMark (e : EntryId) (f : Entry → Entry) :
    (s.updEntry e f).lowMark = s.lowMark := rfl
@[simp] theorem State.updEntry_dormancyLimit (e : EntryId) (f : Entry → Entry) :
    (s.updEntry e f).dormancyLimit = s.dormancyLimit := rfl
@[simp] theorem State.updEntry_poolArmed (e : EntryId) (f : Entry → Entry) :
    (s.updEntry e f).poolArmed = s.poolArmed := rfl
@[simp] theorem State.updEntry_arrival (e : EntryId) (f : Entry → Entry) :
    (s.updEntry e f).arrival = s.arrival := rfl
@[simp] theorem State.updEntry_descriptors (e : EntryId) (f : Entry → Entry) :
    (s.updEntry e f).descriptors = s.descriptors := rfl
@[simp] theorem State.updEntry_entries (e : EntryId) (f : Entry → Entry) :
    (s.updEntry e f).entries = s.entries.set e ((s.entry e).map f) := rfl
@[simp] theorem State.updEntry_buffers (e : EntryId) (f : Entry → Entry) :
    (s.updEntry e f).buffers = s.buffers := rfl
@[simp] theorem State.updEntry_mem (e : EntryId) (f : Entry → Entry) :
    (s.updEntry e f).mem = s.mem := rfl
@[simp] theorem State.updEntry_mailboxes (e : EntryId) (f : Entry → Entry) :
    (s.updEntry e f).mailboxes = s.mailboxes := rfl
@[simp] theorem State.updEntry_groups (e : EntryId) (f : Entry → Entry) :
    (s.updEntry e f).groups = s.groups := rfl
@[simp] theorem State.updEntry_ports (e : EntryId) (f : Entry → Entry) :
    (s.updEntry e f).ports = s.ports := rfl
@[simp] theorem State.updEntry_pending (e : EntryId) (f : Entry → Entry) :
    (s.updEntry e f).pending = s.pending := rfl

/-! ### reach -/

@[simp] theorem State.reach_now (t : Nat) :
    (s.reach t).now = max s.now t := rfl
@[simp] theorem State.reach_inReset (t : Nat) :
    (s.reach t).inReset = s.inReset := rfl
@[simp] theorem State.reach_mode (t : Nat) :
    (s.reach t).mode = s.mode := rfl
@[simp] theorem State.reach_goodCount (t : Nat) :
    (s.reach t).goodCount = s.goodCount := rfl
@[simp] theorem State.reach_startUp (t : Nat) :
    (s.reach t).startUp = s.startUp := rfl
@[simp] theorem State.reach_rate (t : Nat) :
    (s.reach t).rate = s.rate := rfl
@[simp] theorem State.reach_lowMark (t : Nat) :
    (s.reach t).lowMark = s.lowMark := rfl
@[simp] theorem State.reach_dormancyLimit (t : Nat) :
    (s.reach t).dormancyLimit = s.dormancyLimit := rfl
@[simp] theorem State.reach_poolArmed (t : Nat) :
    (s.reach t).poolArmed = s.poolArmed := rfl
@[simp] theorem State.reach_arrival (t : Nat) :
    (s.reach t).arrival = s.arrival := rfl
@[simp] theorem State.reach_descriptors (t : Nat) :
    (s.reach t).descriptors = s.descriptors := rfl
@[simp] theorem State.reach_entries (t : Nat) :
    (s.reach t).entries = s.entries := rfl
@[simp] theorem State.reach_buffers (t : Nat) :
    (s.reach t).buffers = s.buffers := rfl
@[simp] theorem State.reach_mem (t : Nat) :
    (s.reach t).mem = s.mem := rfl
@[simp] theorem State.reach_mailboxes (t : Nat) :
    (s.reach t).mailboxes = s.mailboxes := rfl
@[simp] theorem State.reach_groups (t : Nat) :
    (s.reach t).groups = s.groups := rfl
@[simp] theorem State.reach_ports (t : Nat) :
    (s.reach t).ports = s.ports := rfl
@[simp] theorem State.reach_pending (t : Nat) :
    (s.reach t).pending = s.pending := rfl

/-! ### moveBuffers -/

@[simp] theorem State.moveBuffers_now (bs : List BufferId) (x : BufferSet) :
    (s.moveBuffers bs x).now = s.now := rfl
@[simp] theorem State.moveBuffers_inReset (bs : List BufferId) (x : BufferSet) :
    (s.moveBuffers bs x).inReset = s.inReset := rfl
@[simp] theorem State.moveBuffers_mode (bs : List BufferId) (x : BufferSet) :
    (s.moveBuffers bs x).mode = s.mode := rfl
@[simp] theorem State.moveBuffers_goodCount (bs : List BufferId) (x : BufferSet) :
    (s.moveBuffers bs x).goodCount = s.goodCount := rfl
@[simp] theorem State.moveBuffers_startUp (bs : List BufferId) (x : BufferSet) :
    (s.moveBuffers bs x).startUp = s.startUp := rfl
@[simp] theorem State.moveBuffers_rate (bs : List BufferId) (x : BufferSet) :
    (s.moveBuffers bs x).rate = s.rate := rfl
@[simp] theorem State.moveBuffers_lowMark (bs : List BufferId) (x : BufferSet) :
    (s.moveBuffers bs x).lowMark = s.lowMark := rfl
@[simp] theorem State.moveBuffers_dormancyLimit (bs : List BufferId) (x : BufferSet) :
    (s.moveBuffers bs x).dormancyLimit = s.dormancyLimit := rfl
@[simp] theorem State.moveBuffers_poolArmed (bs : List BufferId) (x : BufferSet) :
    (s.moveBuffers bs x).poolArmed = s.poolArmed := rfl
@[simp] theorem State.moveBuffers_arrival (bs : List BufferId) (x : BufferSet) :
    (s.moveBuffers bs x).arrival = s.arrival := rfl
@[simp] theorem State.moveBuffers_descriptors (bs : List BufferId) (x : BufferSet) :
    (s.moveBuffers bs x).descriptors = s.descriptors := rfl
@[simp] theorem State.moveBuffers_entries (bs : List BufferId) (x : BufferSet) :
    (s.moveBuffers bs x).entries = s.entries := rfl
@[simp] theorem State.moveBuffers_buffers (bs : List BufferId) (x : BufferSet) :
    (s.moveBuffers bs x).buffers = bs.foldl (fun t b => t.set b x) s.buffers := rfl
@[simp] theorem State.moveBuffers_mem (bs : List BufferId) (x : BufferSet) :
    (s.moveBuffers bs x).mem = s.mem := rfl
@[simp] theorem State.moveBuffers_mailboxes (bs : List BufferId) (x : BufferSet) :
    (s.moveBuffers bs x).mailboxes = s.mailboxes := rfl
@[simp] theorem State.moveBuffers_groups (bs : List BufferId) (x : BufferSet) :
    (s.moveBuffers bs x).groups = s.groups := rfl
@[simp] theorem State.moveBuffers_ports (bs : List BufferId) (x : BufferSet) :
    (s.moveBuffers bs x).ports = s.ports := rfl
@[simp] theorem State.moveBuffers_pending (bs : List BufferId) (x : BufferSet) :
    (s.moveBuffers bs x).pending = s.pending := rfl

/-! ### leaveGroups -/

@[simp] theorem State.leaveGroups_now (m : MailboxId) :
    (s.leaveGroups m).now = s.now := rfl
@[simp] theorem State.leaveGroups_inReset (m : MailboxId) :
    (s.leaveGroups m).inReset = s.inReset := rfl
@[simp] theorem State.leaveGroups_mode (m : MailboxId) :
    (s.leaveGroups m).mode = s.mode := rfl
@[simp] theorem State.leaveGroups_goodCount (m : MailboxId) :
    (s.leaveGroups m).goodCount = s.goodCount := rfl
@[simp] theorem State.leaveGroups_startUp (m : MailboxId) :
    (s.leaveGroups m).startUp = s.startUp := rfl
@[simp] theorem State.leaveGroups_rate (m : MailboxId) :
    (s.leaveGroups m).rate = s.rate := rfl
@[simp] theorem State.leaveGroups_lowMark (m : MailboxId) :
    (s.leaveGroups m).lowMark = s.lowMark := rfl
@[simp] theorem State.leaveGroups_dormancyLimit (m : MailboxId) :
    (s.leaveGroups m).dormancyLimit = s.dormancyLimit := rfl
@[simp] theorem State.leaveGroups_poolArmed (m : MailboxId) :
    (s.leaveGroups m).poolArmed = s.poolArmed := rfl
@[simp] theorem State.leaveGroups_arrival (m : MailboxId) :
    (s.leaveGroups m).arrival = s.arrival := rfl
@[simp] theorem State.leaveGroups_descriptors (m : MailboxId) :
    (s.leaveGroups m).descriptors = s.descriptors := rfl
@[simp] theorem State.leaveGroups_entries (m : MailboxId) :
    (s.leaveGroups m).entries = s.entries := rfl
@[simp] theorem State.leaveGroups_buffers (m : MailboxId) :
    (s.leaveGroups m).buffers = s.buffers := rfl
@[simp] theorem State.leaveGroups_mem (m : MailboxId) :
    (s.leaveGroups m).mem = s.mem := rfl
@[simp] theorem State.leaveGroups_mailboxes (m : MailboxId) :
    (s.leaveGroups m).mailboxes = s.mailboxes := rfl
@[simp] theorem State.leaveGroups_groups (m : MailboxId) :
    (s.leaveGroups m).groups = s.groups.map fun g =>
      { g with members := g.members.filter fun x => decide (x ≠ m) } := rfl
@[simp] theorem State.leaveGroups_ports (m : MailboxId) :
    (s.leaveGroups m).ports = s.ports := rfl
@[simp] theorem State.leaveGroups_pending (m : MailboxId) :
    (s.leaveGroups m).pending = s.pending := rfl

/-! ### forgetCloseReplies -/

@[simp] theorem State.forgetCloseReplies_now (p : PortId) :
    (s.forgetCloseReplies p).now = s.now := rfl
@[simp] theorem State.forgetCloseReplies_inReset (p : PortId) :
    (s.forgetCloseReplies p).inReset = s.inReset := rfl
@[simp] theorem State.forgetCloseReplies_mode (p : PortId) :
    (s.forgetCloseReplies p).mode = s.mode := rfl
@[simp] theorem State.forgetCloseReplies_goodCount (p : PortId) :
    (s.forgetCloseReplies p).goodCount = s.goodCount := rfl
@[simp] theorem State.forgetCloseReplies_startUp (p : PortId) :
    (s.forgetCloseReplies p).startUp = s.startUp := rfl
@[simp] theorem State.forgetCloseReplies_rate (p : PortId) :
    (s.forgetCloseReplies p).rate = s.rate := rfl
@[simp] theorem State.forgetCloseReplies_lowMark (p : PortId) :
    (s.forgetCloseReplies p).lowMark = s.lowMark := rfl
@[simp] theorem State.forgetCloseReplies_dormancyLimit (p : PortId) :
    (s.forgetCloseReplies p).dormancyLimit = s.dormancyLimit := rfl
@[simp] theorem State.forgetCloseReplies_poolArmed (p : PortId) :
    (s.forgetCloseReplies p).poolArmed = s.poolArmed := rfl
@[simp] theorem State.forgetCloseReplies_arrival (p : PortId) :
    (s.forgetCloseReplies p).arrival = s.arrival := rfl
@[simp] theorem State.forgetCloseReplies_descriptors (p : PortId) :
    (s.forgetCloseReplies p).descriptors = s.descriptors := rfl
@[simp] theorem State.forgetCloseReplies_entries (p : PortId) :
    (s.forgetCloseReplies p).entries = s.entries := rfl
@[simp] theorem State.forgetCloseReplies_buffers (p : PortId) :
    (s.forgetCloseReplies p).buffers = s.buffers := rfl
@[simp] theorem State.forgetCloseReplies_mem (p : PortId) :
    (s.forgetCloseReplies p).mem = s.mem := rfl
@[simp] theorem State.forgetCloseReplies_mailboxes (p : PortId) :
    (s.forgetCloseReplies p).mailboxes = s.mailboxes.map fun x =>
      { x with closeReply := x.closeReply.filter fun r => decide (r.1 ≠ p) } := rfl
@[simp] theorem State.forgetCloseReplies_groups (p : PortId) :
    (s.forgetCloseReplies p).groups = s.groups := rfl
@[simp] theorem State.forgetCloseReplies_ports (p : PortId) :
    (s.forgetCloseReplies p).ports = s.ports := rfl
@[simp] theorem State.forgetCloseReplies_pending (p : PortId) :
    (s.forgetCloseReplies p).pending = s.pending := rfl

/-! ### raise -/

@[simp] theorem State.raise_now (e : Event) (p : PortId) :
    (s.raise e p).now = s.now := rfl
@[simp] theorem State.raise_inReset (e : Event) (p : PortId) :
    (s.raise e p).inReset = s.inReset := rfl
@[simp] theorem State.raise_mode (e : Event) (p : PortId) :
    (s.raise e p).mode = s.mode := rfl
@[simp] theorem State.raise_goodCount (e : Event) (p : PortId) :
    (s.raise e p).goodCount = s.goodCount := rfl
@[simp] theorem State.raise_startUp (e : Event) (p : PortId) :
    (s.raise e p).startUp = s.startUp := rfl
@[simp] theorem State.raise_rate (e : Event) (p : PortId) :
    (s.raise e p).rate = s.rate := rfl
@[simp] theorem State.raise_lowMark (e : Event) (p : PortId) :
    (s.raise e p).lowMark = s.lowMark := rfl
@[simp] theorem State.raise_dormancyLimit (e : Event) (p : PortId) :
    (s.raise e p).dormancyLimit = s.dormancyLimit := rfl
@[simp] theorem State.raise_poolArmed (e : Event) (p : PortId) :
    (s.raise e p).poolArmed = s.poolArmed := rfl
@[simp] theorem State.raise_arrival (e : Event) (p : PortId) :
    (s.raise e p).arrival = s.arrival := rfl
@[simp] theorem State.raise_descriptors (e : Event) (p : PortId) :
    (s.raise e p).descriptors = s.descriptors := rfl
@[simp] theorem State.raise_entries (e : Event) (p : PortId) :
    (s.raise e p).entries = s.entries := rfl
@[simp] theorem State.raise_buffers (e : Event) (p : PortId) :
    (s.raise e p).buffers = s.buffers := rfl
@[simp] theorem State.raise_mem (e : Event) (p : PortId) :
    (s.raise e p).mem = s.mem := rfl
@[simp] theorem State.raise_mailboxes (e : Event) (p : PortId) :
    (s.raise e p).mailboxes = s.mailboxes := rfl
@[simp] theorem State.raise_groups (e : Event) (p : PortId) :
    (s.raise e p).groups = s.groups := rfl
@[simp] theorem State.raise_ports (e : Event) (p : PortId) :
    (s.raise e p).ports = s.ports.modify p (·.raise e) := rfl
@[simp] theorem State.raise_pending (e : Event) (p : PortId) :
    (s.raise e p).pending = s.pending := rfl

/-! ### raiseAll -/

@[simp] theorem State.raiseAll_now (e : Event) :
    (s.raiseAll e).now = s.now := rfl
@[simp] theorem State.raiseAll_inReset (e : Event) :
    (s.raiseAll e).inReset = s.inReset := rfl
@[simp] theorem State.raiseAll_mode (e : Event) :
    (s.raiseAll e).mode = s.mode := rfl
@[simp] theorem State.raiseAll_goodCount (e : Event) :
    (s.raiseAll e).goodCount = s.goodCount := rfl
@[simp] theorem State.raiseAll_startUp (e : Event) :
    (s.raiseAll e).startUp = s.startUp := rfl
@[simp] theorem State.raiseAll_rate (e : Event) :
    (s.raiseAll e).rate = s.rate := rfl
@[simp] theorem State.raiseAll_lowMark (e : Event) :
    (s.raiseAll e).lowMark = s.lowMark := rfl
@[simp] theorem State.raiseAll_dormancyLimit (e : Event) :
    (s.raiseAll e).dormancyLimit = s.dormancyLimit := rfl
@[simp] theorem State.raiseAll_poolArmed (e : Event) :
    (s.raiseAll e).poolArmed = s.poolArmed := rfl
@[simp] theorem State.raiseAll_arrival (e : Event) :
    (s.raiseAll e).arrival = s.arrival := rfl
@[simp] theorem State.raiseAll_descriptors (e : Event) :
    (s.raiseAll e).descriptors = s.descriptors := rfl
@[simp] theorem State.raiseAll_entries (e : Event) :
    (s.raiseAll e).entries = s.entries := rfl
@[simp] theorem State.raiseAll_buffers (e : Event) :
    (s.raiseAll e).buffers = s.buffers := rfl
@[simp] theorem State.raiseAll_mem (e : Event) :
    (s.raiseAll e).mem = s.mem := rfl
@[simp] theorem State.raiseAll_mailboxes (e : Event) :
    (s.raiseAll e).mailboxes = s.mailboxes := rfl
@[simp] theorem State.raiseAll_groups (e : Event) :
    (s.raiseAll e).groups = s.groups := rfl
@[simp] theorem State.raiseAll_ports (e : Event) :
    (s.raiseAll e).ports = s.ports.map (·.raise e) := rfl
@[simp] theorem State.raiseAll_pending (e : Event) :
    (s.raiseAll e).pending = s.pending := rfl

/-! ### setReceiver -/

@[simp] theorem State.setReceiver_now (p : PortId) (r : Receiver) :
    (s.setReceiver p r).now = s.now := rfl
@[simp] theorem State.setReceiver_inReset (p : PortId) (r : Receiver) :
    (s.setReceiver p r).inReset = s.inReset := rfl
@[simp] theorem State.setReceiver_mode (p : PortId) (r : Receiver) :
    (s.setReceiver p r).mode = s.mode := rfl
@[simp] theorem State.setReceiver_goodCount (p : PortId) (r : Receiver) :
    (s.setReceiver p r).goodCount = s.goodCount := rfl
@[simp] theorem State.setReceiver_startUp (p : PortId) (r : Receiver) :
    (s.setReceiver p r).startUp = s.startUp := rfl
@[simp] theorem State.setReceiver_rate (p : PortId) (r : Receiver) :
    (s.setReceiver p r).rate = s.rate := rfl
@[simp] theorem State.setReceiver_lowMark (p : PortId) (r : Receiver) :
    (s.setReceiver p r).lowMark = s.lowMark := rfl
@[simp] theorem State.setReceiver_dormancyLimit (p : PortId) (r : Receiver) :
    (s.setReceiver p r).dormancyLimit = s.dormancyLimit := rfl
@[simp] theorem State.setReceiver_poolArmed (p : PortId) (r : Receiver) :
    (s.setReceiver p r).poolArmed = s.poolArmed := rfl
@[simp] theorem State.setReceiver_arrival (p : PortId) (r : Receiver) :
    (s.setReceiver p r).arrival = s.arrival := rfl
@[simp] theorem State.setReceiver_descriptors (p : PortId) (r : Receiver) :
    (s.setReceiver p r).descriptors = s.descriptors := rfl
@[simp] theorem State.setReceiver_entries (p : PortId) (r : Receiver) :
    (s.setReceiver p r).entries = s.entries := rfl
@[simp] theorem State.setReceiver_buffers (p : PortId) (r : Receiver) :
    (s.setReceiver p r).buffers = s.buffers := rfl
@[simp] theorem State.setReceiver_mem (p : PortId) (r : Receiver) :
    (s.setReceiver p r).mem = s.mem := rfl
@[simp] theorem State.setReceiver_mailboxes (p : PortId) (r : Receiver) :
    (s.setReceiver p r).mailboxes = s.mailboxes := rfl
@[simp] theorem State.setReceiver_groups (p : PortId) (r : Receiver) :
    (s.setReceiver p r).groups = s.groups := rfl
@[simp] theorem State.setReceiver_ports (p : PortId) (r : Receiver) :
    (s.setReceiver p r).ports = s.ports.modify p fun x => { x with receiver := r } := rfl
@[simp] theorem State.setReceiver_pending (p : PortId) (r : Receiver) :
    (s.setReceiver p r).pending = s.pending := rfl

/-! ### replied -/

@[simp] theorem State.replied_now (p : PortId) (k q : Byte) (st : Status) (r : Results) :
    (s.replied p k q st r).now = s.now := rfl
@[simp] theorem State.replied_inReset (p : PortId) (k q : Byte) (st : Status) (r : Results) :
    (s.replied p k q st r).inReset = s.inReset := rfl
@[simp] theorem State.replied_mode (p : PortId) (k q : Byte) (st : Status) (r : Results) :
    (s.replied p k q st r).mode = s.mode := rfl
@[simp] theorem State.replied_goodCount (p : PortId) (k q : Byte) (st : Status) (r : Results) :
    (s.replied p k q st r).goodCount = s.goodCount := rfl
@[simp] theorem State.replied_startUp (p : PortId) (k q : Byte) (st : Status) (r : Results) :
    (s.replied p k q st r).startUp = s.startUp := rfl
@[simp] theorem State.replied_rate (p : PortId) (k q : Byte) (st : Status) (r : Results) :
    (s.replied p k q st r).rate = s.rate := rfl
@[simp] theorem State.replied_lowMark (p : PortId) (k q : Byte) (st : Status) (r : Results) :
    (s.replied p k q st r).lowMark = s.lowMark := rfl
@[simp] theorem State.replied_dormancyLimit (p : PortId) (k q : Byte) (st : Status) (r : Results) :
    (s.replied p k q st r).dormancyLimit = s.dormancyLimit := rfl
@[simp] theorem State.replied_poolArmed (p : PortId) (k q : Byte) (st : Status) (r : Results) :
    (s.replied p k q st r).poolArmed = s.poolArmed := rfl
@[simp] theorem State.replied_arrival (p : PortId) (k q : Byte) (st : Status) (r : Results) :
    (s.replied p k q st r).arrival = s.arrival := rfl
@[simp] theorem State.replied_descriptors (p : PortId) (k q : Byte) (st : Status) (r : Results) :
    (s.replied p k q st r).descriptors = s.descriptors := rfl
@[simp] theorem State.replied_entries (p : PortId) (k q : Byte) (st : Status) (r : Results) :
    (s.replied p k q st r).entries = s.entries := rfl
@[simp] theorem State.replied_buffers (p : PortId) (k q : Byte) (st : Status) (r : Results) :
    (s.replied p k q st r).buffers = s.buffers := rfl
@[simp] theorem State.replied_mem (p : PortId) (k q : Byte) (st : Status) (r : Results) :
    (s.replied p k q st r).mem = s.mem := rfl
@[simp] theorem State.replied_mailboxes (p : PortId) (k q : Byte) (st : Status) (r : Results) :
    (s.replied p k q st r).mailboxes = s.mailboxes := rfl
@[simp] theorem State.replied_groups (p : PortId) (k q : Byte) (st : Status) (r : Results) :
    (s.replied p k q st r).groups = s.groups := rfl
@[simp] theorem State.replied_ports (p : PortId) (k q : Byte) (st : Status) (r : Results) :
    (s.replied p k q st r).ports = s.ports.modify p
      (·.post { kind := k, seq := q, state := .ready st r }) := rfl
@[simp] theorem State.replied_pending (p : PortId) (k q : Byte) (st : Status) (r : Results) :
    (s.replied p k q st r).pending = s.pending := rfl

/-! ### What each record reads after an update of other records -/

@[simp] theorem State.mbx_updPort (p : PortId) (f : Port → Port) (n : MailboxId) :
    (s.updPort p f).mbx n = s.mbx n := rfl
@[simp] theorem State.grp_updPort (p : PortId) (f : Port → Port) (h : GroupId) :
    (s.updPort p f).grp h = s.grp h := rfl
@[simp] theorem State.desc_updPort (p : PortId) (f : Port → Port) (i : DescId) :
    (s.updPort p f).desc i = s.desc i := rfl
@[simp] theorem State.entry_updPort (p : PortId) (f : Port → Port) (j : EntryId) :
    (s.updPort p f).entry j = s.entry j := rfl
@[simp] theorem State.mbx_allPorts (f : Port → Port) (n : MailboxId) :
    (s.allPorts f).mbx n = s.mbx n := rfl
@[simp] theorem State.grp_allPorts (f : Port → Port) (h : GroupId) :
    (s.allPorts f).grp h = s.grp h := rfl
@[simp] theorem State.desc_allPorts (f : Port → Port) (i : DescId) :
    (s.allPorts f).desc i = s.desc i := rfl
@[simp] theorem State.entry_allPorts (f : Port → Port) (j : EntryId) :
    (s.allPorts f).entry j = s.entry j := rfl
@[simp] theorem State.port_updMbx (m : MailboxId) (f : Mailbox → Mailbox) (q : PortId) :
    (s.updMbx m f).port q = s.port q := rfl
@[simp] theorem State.grp_updMbx (m : MailboxId) (f : Mailbox → Mailbox) (h : GroupId) :
    (s.updMbx m f).grp h = s.grp h := rfl
@[simp] theorem State.desc_updMbx (m : MailboxId) (f : Mailbox → Mailbox) (i : DescId) :
    (s.updMbx m f).desc i = s.desc i := rfl
@[simp] theorem State.entry_updMbx (m : MailboxId) (f : Mailbox → Mailbox) (j : EntryId) :
    (s.updMbx m f).entry j = s.entry j := rfl
@[simp] theorem State.port_updGrp (g : GroupId) (f : Group → Group) (q : PortId) :
    (s.updGrp g f).port q = s.port q := rfl
@[simp] theorem State.mbx_updGrp (g : GroupId) (f : Group → Group) (n : MailboxId) :
    (s.updGrp g f).mbx n = s.mbx n := rfl
@[simp] theorem State.desc_updGrp (g : GroupId) (f : Group → Group) (i : DescId) :
    (s.updGrp g f).desc i = s.desc i := rfl
@[simp] theorem State.entry_updGrp (g : GroupId) (f : Group → Group) (j : EntryId) :
    (s.updGrp g f).entry j = s.entry j := rfl
@[simp] theorem State.port_setDesc (d : DescId) (x : Option Descriptor) (q : PortId) :
    (s.setDesc d x).port q = s.port q := rfl
@[simp] theorem State.mbx_setDesc (d : DescId) (x : Option Descriptor) (n : MailboxId) :
    (s.setDesc d x).mbx n = s.mbx n := rfl
@[simp] theorem State.grp_setDesc (d : DescId) (x : Option Descriptor) (h : GroupId) :
    (s.setDesc d x).grp h = s.grp h := rfl
@[simp] theorem State.entry_setDesc (d : DescId) (x : Option Descriptor) (j : EntryId) :
    (s.setDesc d x).entry j = s.entry j := rfl
@[simp] theorem State.port_setEntry (e : EntryId) (x : Option Entry) (q : PortId) :
    (s.setEntry e x).port q = s.port q := rfl
@[simp] theorem State.mbx_setEntry (e : EntryId) (x : Option Entry) (n : MailboxId) :
    (s.setEntry e x).mbx n = s.mbx n := rfl
@[simp] theorem State.grp_setEntry (e : EntryId) (x : Option Entry) (h : GroupId) :
    (s.setEntry e x).grp h = s.grp h := rfl
@[simp] theorem State.desc_setEntry (e : EntryId) (x : Option Entry) (i : DescId) :
    (s.setEntry e x).desc i = s.desc i := rfl
@[simp] theorem State.port_updDesc (d : DescId) (f : Descriptor → Descriptor) (q : PortId) :
    (s.updDesc d f).port q = s.port q := rfl
@[simp] theorem State.mbx_updDesc (d : DescId) (f : Descriptor → Descriptor) (n : MailboxId) :
    (s.updDesc d f).mbx n = s.mbx n := rfl
@[simp] theorem State.grp_updDesc (d : DescId) (f : Descriptor → Descriptor) (h : GroupId) :
    (s.updDesc d f).grp h = s.grp h := rfl
@[simp] theorem State.entry_updDesc (d : DescId) (f : Descriptor → Descriptor) (j : EntryId) :
    (s.updDesc d f).entry j = s.entry j := rfl
@[simp] theorem State.port_updEntry (e : EntryId) (f : Entry → Entry) (q : PortId) :
    (s.updEntry e f).port q = s.port q := rfl
@[simp] theorem State.mbx_updEntry (e : EntryId) (f : Entry → Entry) (n : MailboxId) :
    (s.updEntry e f).mbx n = s.mbx n := rfl
@[simp] theorem State.grp_updEntry (e : EntryId) (f : Entry → Entry) (h : GroupId) :
    (s.updEntry e f).grp h = s.grp h := rfl
@[simp] theorem State.desc_updEntry (e : EntryId) (f : Entry → Entry) (i : DescId) :
    (s.updEntry e f).desc i = s.desc i := rfl
@[simp] theorem State.port_reach (t : Nat) (q : PortId) :
    (s.reach t).port q = s.port q := rfl
@[simp] theorem State.mbx_reach (t : Nat) (n : MailboxId) :
    (s.reach t).mbx n = s.mbx n := rfl
@[simp] theorem State.grp_reach (t : Nat) (h : GroupId) :
    (s.reach t).grp h = s.grp h := rfl
@[simp] theorem State.desc_reach (t : Nat) (i : DescId) :
    (s.reach t).desc i = s.desc i := rfl
@[simp] theorem State.entry_reach (t : Nat) (j : EntryId) :
    (s.reach t).entry j = s.entry j := rfl
@[simp] theorem State.port_moveBuffers (bs : List BufferId) (x : BufferSet) (q : PortId) :
    (s.moveBuffers bs x).port q = s.port q := rfl
@[simp] theorem State.mbx_moveBuffers (bs : List BufferId) (x : BufferSet) (n : MailboxId) :
    (s.moveBuffers bs x).mbx n = s.mbx n := rfl
@[simp] theorem State.grp_moveBuffers (bs : List BufferId) (x : BufferSet) (h : GroupId) :
    (s.moveBuffers bs x).grp h = s.grp h := rfl
@[simp] theorem State.desc_moveBuffers (bs : List BufferId) (x : BufferSet) (i : DescId) :
    (s.moveBuffers bs x).desc i = s.desc i := rfl
@[simp] theorem State.entry_moveBuffers (bs : List BufferId) (x : BufferSet) (j : EntryId) :
    (s.moveBuffers bs x).entry j = s.entry j := rfl
@[simp] theorem State.port_leaveGroups (m : MailboxId) (q : PortId) :
    (s.leaveGroups m).port q = s.port q := rfl
@[simp] theorem State.mbx_leaveGroups (m : MailboxId) (n : MailboxId) :
    (s.leaveGroups m).mbx n = s.mbx n := rfl
@[simp] theorem State.desc_leaveGroups (m : MailboxId) (i : DescId) :
    (s.leaveGroups m).desc i = s.desc i := rfl
@[simp] theorem State.entry_leaveGroups (m : MailboxId) (j : EntryId) :
    (s.leaveGroups m).entry j = s.entry j := rfl
@[simp] theorem State.port_forgetCloseReplies (p : PortId) (q : PortId) :
    (s.forgetCloseReplies p).port q = s.port q := rfl
@[simp] theorem State.grp_forgetCloseReplies (p : PortId) (h : GroupId) :
    (s.forgetCloseReplies p).grp h = s.grp h := rfl
@[simp] theorem State.desc_forgetCloseReplies (p : PortId) (i : DescId) :
    (s.forgetCloseReplies p).desc i = s.desc i := rfl
@[simp] theorem State.entry_forgetCloseReplies (p : PortId) (j : EntryId) :
    (s.forgetCloseReplies p).entry j = s.entry j := rfl
@[simp] theorem State.mbx_raise (e : Event) (p : PortId) (n : MailboxId) :
    (s.raise e p).mbx n = s.mbx n := rfl
@[simp] theorem State.grp_raise (e : Event) (p : PortId) (h : GroupId) :
    (s.raise e p).grp h = s.grp h := rfl
@[simp] theorem State.desc_raise (e : Event) (p : PortId) (i : DescId) :
    (s.raise e p).desc i = s.desc i := rfl
@[simp] theorem State.entry_raise (e : Event) (p : PortId) (j : EntryId) :
    (s.raise e p).entry j = s.entry j := rfl
@[simp] theorem State.mbx_raiseAll (e : Event) (n : MailboxId) :
    (s.raiseAll e).mbx n = s.mbx n := rfl
@[simp] theorem State.grp_raiseAll (e : Event) (h : GroupId) :
    (s.raiseAll e).grp h = s.grp h := rfl
@[simp] theorem State.desc_raiseAll (e : Event) (i : DescId) :
    (s.raiseAll e).desc i = s.desc i := rfl
@[simp] theorem State.entry_raiseAll (e : Event) (j : EntryId) :
    (s.raiseAll e).entry j = s.entry j := rfl
@[simp] theorem State.mbx_setReceiver (p : PortId) (r : Receiver) (n : MailboxId) :
    (s.setReceiver p r).mbx n = s.mbx n := rfl
@[simp] theorem State.grp_setReceiver (p : PortId) (r : Receiver) (h : GroupId) :
    (s.setReceiver p r).grp h = s.grp h := rfl
@[simp] theorem State.desc_setReceiver (p : PortId) (r : Receiver) (i : DescId) :
    (s.setReceiver p r).desc i = s.desc i := rfl
@[simp] theorem State.entry_setReceiver (p : PortId) (r : Receiver) (j : EntryId) :
    (s.setReceiver p r).entry j = s.entry j := rfl
@[simp] theorem State.mbx_replied (p : PortId) (k q : Byte) (st : Status) (r : Results) (n : MailboxId) :
    (s.replied p k q st r).mbx n = s.mbx n := rfl
@[simp] theorem State.grp_replied (p : PortId) (k q : Byte) (st : Status) (r : Results) (h : GroupId) :
    (s.replied p k q st r).grp h = s.grp h := rfl
@[simp] theorem State.desc_replied (p : PortId) (k q : Byte) (st : Status) (r : Results) (i : DescId) :
    (s.replied p k q st r).desc i = s.desc i := rfl
@[simp] theorem State.entry_replied (p : PortId) (k q : Byte) (st : Status) (r : Results) (j : EntryId) :
    (s.replied p k q st r).entry j = s.entry j := rfl

/-! ### What the updated record reads -/

@[simp] theorem State.port_updPort_self (p : PortId) (f : Port → Port) :
    (s.updPort p f).port p = f (s.port p) := Table.get_modify_self _ _ _
theorem State.port_updPort (p q : PortId) (f : Port → Port) :
    (s.updPort p f).port q = if q = p then f (s.port q) else s.port q := Table.get_modify _ _ _ _
theorem State.port_updPort_ne (f : Port → Port) {p q : PortId} (h : q ≠ p) :
    (s.updPort p f).port q = s.port q := Table.get_modify_ne _ _ h
@[simp] theorem State.port_allPorts (f : Port → Port) (q : PortId) :
    (s.allPorts f).port q = f (s.port q) := Table.get_map _ _ _
@[simp] theorem State.port_raise_self (e : Event) (p : PortId) :
    (s.raise e p).port p = (s.port p).raise e := Table.get_modify_self _ _ _
theorem State.port_raise_ne (e : Event) {p q : PortId} (h : q ≠ p) :
    (s.raise e p).port q = s.port q := Table.get_modify_ne _ _ h
@[simp] theorem State.port_raiseAll (e : Event) (q : PortId) :
    (s.raiseAll e).port q = (s.port q).raise e := Table.get_map _ _ _
@[simp] theorem State.port_replied_self (p : PortId) (k q : Byte) (st : Status) (r : Results) :
    (s.replied p k q st r).port p =
      (s.port p).post { kind := k, seq := q, state := .ready st r } := Table.get_modify_self _ _ _
theorem State.port_replied_ne (k q : Byte) (st : Status) (r : Results) {p o : PortId} (h : o ≠ p) :
    (s.replied p k q st r).port o = s.port o := Table.get_modify_ne _ _ h
@[simp] theorem State.mbx_updMbx_self (m : MailboxId) (f : Mailbox → Mailbox) :
    (s.updMbx m f).mbx m = f (s.mbx m) := Table.get_modify_self _ _ _
theorem State.mbx_updMbx (m n : MailboxId) (f : Mailbox → Mailbox) :
    (s.updMbx m f).mbx n = if n = m then f (s.mbx n) else s.mbx n := Table.get_modify _ _ _ _
theorem State.mbx_updMbx_ne (f : Mailbox → Mailbox) {m n : MailboxId} (h : n ≠ m) :
    (s.updMbx m f).mbx n = s.mbx n := Table.get_modify_ne _ _ h
@[simp] theorem State.mbx_forgetCloseReplies (p : PortId) (m : MailboxId) :
    (s.forgetCloseReplies p).mbx m =
      { s.mbx m with closeReply := (s.mbx m).closeReply.filter fun r => decide (r.1 ≠ p) } :=
  Table.get_map _ _ _
@[simp] theorem State.grp_updGrp_self (g : GroupId) (f : Group → Group) :
    (s.updGrp g f).grp g = f (s.grp g) := Table.get_modify_self _ _ _
theorem State.grp_updGrp_ne (f : Group → Group) {g h : GroupId} (hne : h ≠ g) :
    (s.updGrp g f).grp h = s.grp h := Table.get_modify_ne _ _ hne
@[simp] theorem State.grp_leaveGroups (m : MailboxId) (g : GroupId) :
    (s.leaveGroups m).grp g =
      { s.grp g with members := (s.grp g).members.filter fun x => decide (x ≠ m) } :=
  Table.get_map _ _ _
@[simp] theorem State.desc_setDesc_self (d : DescId) (x : Option Descriptor) :
    (s.setDesc d x).desc d = x := Table.get_set_self _ _ _
theorem State.desc_setDesc_ne (x : Option Descriptor) {d i : DescId} (h : i ≠ d) :
    (s.setDesc d x).desc i = s.desc i := Table.get_set_ne _ _ h
@[simp] theorem State.desc_updDesc_self (d : DescId) (f : Descriptor → Descriptor) :
    (s.updDesc d f).desc d = (s.desc d).map f := Table.get_set_self _ _ _
theorem State.desc_updDesc_ne (f : Descriptor → Descriptor) {d i : DescId} (h : i ≠ d) :
    (s.updDesc d f).desc i = s.desc i := Table.get_set_ne _ _ h
@[simp] theorem State.entry_setEntry_self (e : EntryId) (x : Option Entry) :
    (s.setEntry e x).entry e = x := Table.get_set_self _ _ _
theorem State.entry_setEntry_ne (x : Option Entry) {e j : EntryId} (h : j ≠ e) :
    (s.setEntry e x).entry j = s.entry j := Table.get_set_ne _ _ h
@[simp] theorem State.entry_updEntry_self (e : EntryId) (f : Entry → Entry) :
    (s.updEntry e f).entry e = (s.entry e).map f := Table.get_set_self _ _ _
theorem State.entry_updEntry_ne (f : Entry → Entry) {e j : EntryId} (h : j ≠ e) :
    (s.updEntry e f).entry j = s.entry j := Table.get_set_ne _ _ h

/-- A port's update that changes nothing changes no state. -/
theorem State.updPort_eq_self (p : PortId) (f : Port → Port) (h : f (s.port p) = s.port p) :
    s.updPort p f = s := by
  show { s with ports := s.ports.modify p f } = s
  rw [Table.modify_eq_self _ _ _ h]

/-- Two updates of one port are one. -/
@[simp] theorem State.updPort_updPort (p : PortId) (f g : Port → Port) :
    (s.updPort p f).updPort p g = s.updPort p fun x => g (f x) := by
  simp [State.updPort]

end Sys2Proof.Machine
end

