-- ==== Sys2Proof/Laws/Line.lean ====
section
/-! SUPPORT. What the operations of a line below the byte can do, said once (R140, R141, R160):
characters, and one bit time of TXD and of RXD. -/

namespace Sys2Proof.Machine

/-- A character takes ten bit times (R140). -/
@[simp] theorem character_length (b : Byte) : (character b).length = 10 := rfl

/-- The byte of its own data bits. -/
@[simp] theorem byteOfBits_dataBits : ∀ b : Byte, byteOfBits (dataBits b) = b := by decide +kernel

/-! ### TXD -/

@[simp] theorem LineTransmitter.pass_cons (n : Nat) (level : Bool) (rest : List Bool)
    (bytes : List Byte) :
    LineTransmitter.pass ⟨n, level :: rest⟩ bytes = ⟨n, rest⟩ := rfl

@[simp] theorem LineTransmitter.pass_next (n : Nat) (b : Byte) (bytes : List Byte) :
    LineTransmitter.pass ⟨n, []⟩ (b :: bytes) = ⟨n + 1, (character b).tail⟩ := rfl

@[simp] theorem LineTransmitter.pass_nil (n : Nat) :
    LineTransmitter.pass ⟨n, []⟩ [] = ⟨n, []⟩ := rfl

/-- With a frame on the line, the bytes not begun are those behind the ones begun. -/
theorem txLine_sending {s : State} {p : PortId} {f : Frame} (h : (s.port p).tx = .sending f) :
    s.txLine p = f.wire.drop (s.port p).txd.begun := by
  simp [State.txLine, h]

/-- With no frame on the line no byte is begun (R160). -/
theorem txLine_quiet {s : State} {p : PortId} (h : ∀ f, (s.port p).tx ≠ .sending f) :
    s.txLine p = [] := by
  unfold State.txLine
  split
  · next f hf => exact absurd hf (h f)
  · rfl
  · rfl

/-- Without a frame on the line TXD carries the rest of the character under way, and is high after it
(R160). -/
theorem txLevel_quiet {s : State} {p : PortId} (h : ∀ f, (s.port p).tx ≠ .sending f) (k : Nat) :
    s.txLevel p k = (s.port p).txd.rest.getD k true := by
  simp [State.txLevel, State.txLevels, txLine_quiet h]

/-- While RESETn is low nothing moves on TXD (R175). -/
theorem passLevel_inReset {s : State} (p : PortId) (h : s.inReset = true) :
    passLevel p s = .next s := by
  simp [passLevel, h]

/-- What one bit time of TXD does while bits are left: it moves on, and nothing else changes (R140). -/
theorem passLevel_more {s : State} (p : PortId) (h : s.inReset = false) {t : State}
    (ht : t = s.updPort p fun x => { x with txd := x.txd.pass (s.txLine p) })
    (hl : t.txLevels p ≠ []) : passLevel p s = .next t := by
  subst ht
  simp only [passLevel, h, Bool.false_eq_true, if_false, if_neg hl]

/-- The bit time that leaves no bit is the one of the last byte's act (R160). -/
theorem passLevel_last {s : State} (p : PortId) (h : s.inReset = false) {t : State}
    (ht : t = s.updPort p fun x => { x with txd := x.txd.pass (s.txLine p) })
    (hl : t.txLevels p = []) : passLevel p s = execFrameLastByteSent p t := by
  subst ht
  simp only [passLevel, h, Bool.false_eq_true, if_false, if_pos hl]

/-- Bit times of TXD in two parts. -/
theorem passLevels_add (p : PortId) (m n : Nat) (s : State) :
    passLevels p (m + n) s =
      match passLevels p m s with
      | .next t => passLevels p n t
      | .fault r => .fault r
      | .refused r => .refused r := by
  induction m generalizing s with
  | zero => rw [Nat.zero_add]; rfl
  | succ m ih =>
    rw [Nat.add_right_comm]
    simp only [passLevels]
    cases passLevel p s with
    | next t => exact ih t
    | fault r => rfl
    | refused r => rfl

/-! ### RXD -/

/-- While RESETn is low no level of a line has an effect (R175). -/
theorem takeLevel_inReset {s : State} (p : PortId) (level : Bool) (h : s.inReset = true) :
    takeLevel p level s = .next s := by
  simp [takeLevel, h]

/-- What one bit time does (R141): the receiver of the line goes on, and at a stop bit the byte is taken. -/
theorem takeLevel_awake {s : State} (p : PortId) (level : Bool) (h : s.inReset = false) :
    takeLevel p level s =
      match ((s.port p).line.sample level).2 with
      | some b =>
        execByteTaken p b
          (s.updPort p fun x => { x with line := ((s.port p).line.sample level).1 })
      | none =>
        .next (s.updPort p fun x => { x with line := ((s.port p).line.sample level).1 }) := by
  simp only [takeLevel, h]
  rfl

/-- Taking levels in two parts. -/
theorem takeLevels_append (p : PortId) (first rest : List Bool) (s : State) :
    takeLevels p (first ++ rest) s =
      match takeLevels p first s with
      | .next t => takeLevels p rest t
      | .fault r => .fault r
      | .refused r => .refused r := by
  induction first generalizing s with
  | nil => rfl
  | cons level first ih =>
    simp only [List.cons_append, takeLevels]
    cases takeLevel p level s with
    | next t => exact ih t
    | fault r => rfl
    | refused r => rfl

end Sys2Proof.Machine
end

