-- ==== Sys2Proof/Laws/Link.lean ====
section
/-! SUPPORT. What each shared operation of the link can do, said once: the stages of a command frame (R121,
R147, R157, R173), the reply slots (R156, R158), a raise (R163, R164) and the arming evaluations (R19, R26). -/

namespace Sys2Proof.Machine

variable {s : State} {p : PortId} {kind seq : Byte} {own : State → State × ReplyState}

/-! ### Events and stages -/

/-- While RESETn is high an event has its effect. -/
theorem event_awake (f : State → State) (h : s.inReset = false) : event f s = .next (f s) := by
  simp [event, h]

/-- While RESETn is low an event has none (R175). -/
theorem event_inReset (f : State → State) (h : s.inReset = true) : event f s = .next s := by
  simp [event, h]

/-- A DOWN port ignores a command frame (R121). -/
theorem takeFrame_down (h : (s.port p).session = .down) : s.takeFrame p kind seq own = s := by
  simp [State.takeFrame, h]

/-- With four replies owed a command frame is dropped (R157). -/
theorem takeFrame_full (h : (s.port p).session ≠ .down) (hf : 4 ≤ (s.port p).replies.length) :
    s.takeFrame p kind seq own = s.dropCommand p := by
  simp [State.takeFrame, h, Config.replySlots, hf]

/-- Otherwise the command takes a slot, and `own` decides its effect and its reply (R147). -/
theorem takeFrame_hears (h : Hears s p) :
    s.takeFrame p kind seq own =
      (own s).1.updPort p (·.post { kind := kind, seq := seq, state := (own s).2 }) := by
  have := h.slot
  simp only [Config.replySlots] at this
  simp [State.takeFrame, h.notDown, Config.replySlots, Nat.not_le.2 this]

/-- A port that serves hears. -/
theorem Serves.hears (h : Serves s p) : Hears s p :=
  ⟨h.awake, by rw [h.up]; decide, h.slot⟩

/-- A command at an UP port outside FAULT reaches its own checks (R121, R173). -/
theorem takeCommand_serves (h : Serves s p) :
    s.takeCommand p kind seq own =
      (own s).1.updPort p (·.post { kind := kind, seq := seq, state := (own s).2 }) := by
  have hm := h.mode
  rw [State.takeCommand, takeFrame_hears h.hears]
  simp [State.stageRefusal, h.up, hm]

/-- A command refused at its own checks earns its status and changes nothing else. -/
theorem takeCommand_refuse (h : Serves s p) {st : Status} (ho : own s = refuse s st) :
    s.takeCommand p kind seq own = s.replied p kind seq st .none := by
  rw [takeCommand_serves h, ho]
  rfl

/-- A command done at its own checks answers OK over its effect. -/
theorem takeCommand_answer (h : Serves s p) {t : State} {res : Results}
    (ho : own s = answer t res) :
    s.takeCommand p kind seq own = t.replied p kind seq .ok res := by
  rw [takeCommand_serves h, ho]
  rfl

/-- In FAULT every command but QUERY_POOL is answered FAULTED (R173). -/
theorem takeCommand_fault (h : Hears s p) (hm : s.mode = .fault) (hk : kind ≠ Kind.queryPool) :
    s.takeCommand p kind seq own = s.replied p kind seq .faulted .none := by
  rw [State.takeCommand, takeFrame_hears h]
  simp [State.stageRefusal, hm, hk, refuse, State.replied]

/-- On an ANNOUNCED port every command but ATTACH and QUERY_POOL is refused NOT_ATTACHED (R121). -/
theorem takeCommand_announced (h : Hears s p) (hm : s.mode ≠ .fault)
    (hs : (s.port p).session = .announced) (hk : kind ≠ Kind.queryPool)
    (ha : kind ≠ Kind.attach) :
    s.takeCommand p kind seq own = s.replied p kind seq .notAttached .none := by
  rw [State.takeCommand, takeFrame_hears h]
  simp [State.stageRefusal, hm, hs, hk, ha, refuse, State.replied]

/-- QUERY_POOL, and outside FAULT an ATTACH, pass both stages on any port that hears. -/
theorem takeCommand_open (h : Hears s p)
    (hk : kind = Kind.queryPool ∨ (kind = Kind.attach ∧ s.mode ≠ .fault)) :
    s.takeCommand p kind seq own =
      (own s).1.updPort p (·.post { kind := kind, seq := seq, state := (own s).2 }) := by
  rw [State.takeCommand, takeFrame_hears h]
  rcases hk with rfl | ⟨rfl, hm⟩
  · simp [State.stageRefusal]
  · simp [State.stageRefusal, hm]

/-- The principal's port passes the principal check (R120). -/
theorem ofPrincipal_yes (h : (s.port p).principal = true) : ofPrincipal p own s = own s := by
  simp [ofPrincipal, h]

/-- Any other port is refused NOT_PRINCIPAL (R120). -/
theorem ofPrincipal_no (h : (s.port p).principal = false) :
    ofPrincipal p own s = refuse s .notPrincipal := by
  simp [ofPrincipal, h]

/-! ### Reply slots -/

@[simp] theorem Port.post_replies (x : Port) (r : Reply) : (x.post r).replies = x.replies ++ [r] :=
  rfl

/-- Completing a deferred reply changes a port's replies alone. -/
theorem Port.complete_eq (x : Port) (a : Awaited) (res : Results) :
    x.complete a res = { x with replies := (x.complete a res).replies } := by
  unfold Port.complete
  split <;> rfl

/-- With no reply that waits there is nothing to complete (R33). -/
theorem Port.complete_none {x : Port} {a : Awaited} (res : Results)
    (h : ∀ r ∈ x.replies, r.awaits a = false) : x.complete a res = x := by
  have : x.replies.find? (·.awaits a) = none := by
    simpa [List.find?_eq_none] using h
  simp [Port.complete, this]

/-! ### Raises -/

/-- At a port that is not UP a raise does nothing (R163). -/
theorem Port.raise_quiet {x : Port} (e : Event) (h : x.session ≠ .up) : x.raise e = x := by
  simp [Port.raise, h]

/-- At an UP port a raise makes the flag pending and evaluates the notice condition (R163). -/
theorem Port.raise_up {x : Port} (e : Event) (h : x.session = .up) :
    x.raise e = Port.evalNotice { x with flags := x.flags ||| e.bit } := by
  simp [Port.raise, h]

/-- The notice condition changes the notice and the gate alone. -/
theorem Port.evalNotice_eq (x : Port) :
    x.evalNotice = { x with
      noticeQueued := x.evalNotice.noticeQueued
      noticeOutstanding := x.evalNotice.noticeOutstanding } := by
  unfold Port.evalNotice
  split <;> rfl

/-- A raise changes the flags, the notice and the gate alone. -/
theorem Port.raise_eq (x : Port) (e : Event) :
    x.raise e = { x with
      flags := (x.raise e).flags
      noticeQueued := (x.raise e).noticeQueued
      noticeOutstanding := (x.raise e).noticeOutstanding } := by
  unfold Port.raise
  split
  · unfold Port.evalNotice
    split <;> rfl
  · rfl

/-- The pending flags after a raise. -/
theorem Port.raise_flags (x : Port) (e : Event) :
    (x.raise e).flags = if x.session = .up then x.flags ||| e.bit else x.flags := by
  unfold Port.raise
  split
  · unfold Port.evalNotice
    split <;> rfl
  · rfl

/-! ### Armings -/

/-- Every exchange-wide count but the pool arming, and every table but the ports, is untouched by an
evaluation of pool-low arming; it ends armed exactly when the free count is at the mark or above (R19). -/
theorem State.evalPool_armed (s : State) :
    s.evalPool.poolArmed = decide (s.lowMark ≤ s.freeBuffers) := by
  unfold State.evalPool
  split_ifs with h1 h2 h3
  · simp [State.raiseAll, State.allPorts, Nat.not_le.2 h2]
  · simp [h1, Nat.not_lt.1 h2]
  · simp [h3]
  · simp [h1, h3]

/-- An evaluation of pool-low arming changes the arming and raises POOL_LOW, no more (R19). -/
theorem State.evalPool_eq (s : State) :
    s.evalPool = if s.poolArmed = true ∧ s.freeBuffers < s.lowMark then
        ({ s with poolArmed := false } : State).raiseAll .poolLow
      else { s with poolArmed := decide (s.lowMark ≤ s.freeBuffers) } := by
  unfold State.evalPool
  by_cases h1 : s.poolArmed = true
  · by_cases h2 : s.freeBuffers < s.lowMark
    · simp [h1, h2]
    · have : s = { s with poolArmed := true } := by rw [← h1]
      simp [h1, h2, Nat.not_lt.1 h2, ← this]
  · by_cases h3 : s.lowMark ≤ s.freeBuffers
    · simp [h1, h3]
    · have hf : s.poolArmed = false := by simpa using h1
      have : s = { s with poolArmed := false } := by rw [← hf]
      simp [h1, h3, ← this]

/-- An evaluation of a mailbox's level arming changes that arming and raises LEVEL at its owner when it
disarms, no more (R26). -/
theorem State.evalLevel_cases (s : State) (m : MailboxId) :
    s.evalLevel m = s ∨
    s.evalLevel m = (s.updMbx m fun y => { y with armed := false }).raise .level (s.mbx m).owner ∨
    s.evalLevel m = s.updMbx m fun y => { y with armed := true } := by
  unfold State.evalLevel
  simp only
  split_ifs <;> simp

end Sys2Proof.Machine
end

