-- ==== Sys2Proof/Laws/Memory.lean ====
section
/-! SUPPORT. The laws of the buffer pool's bytes: a byte reads as it was last written, a write leaves every
other byte alone, and every operation keeps the canonical form. -/

namespace Sys2Proof.Machine

/-- A canonical memory from an address on is one from any lower address on. -/
theorem Memory.wfFrom_mono {lo hi : Nat} (h : lo ≤ hi) {m : Memory} (hm : m.wfFrom hi = true) :
    m.wfFrom lo = true := by
  cases m with
  | nil => rfl
  | cons c rest =>
    simp only [Memory.wfFrom, Bool.and_eq_true, decide_eq_true_eq] at hm ⊢
    exact ⟨⟨by omega, hm.1.2⟩, hm.2⟩

/-- Below its first address a canonical memory reads blank. -/
theorem Memory.read_below {lo a : Nat} (h : a < lo) {m : Memory} (hm : m.wfFrom lo = true) :
    m.read a = Memory.blank := by
  induction m generalizing lo with
  | nil => rfl
  | cons c rest ih =>
    obtain ⟨b, v⟩ := c
    simp only [Memory.wfFrom, Bool.and_eq_true, decide_eq_true_eq] at hm
    simp only [Memory.read]
    rw [if_neg (by omega)]
    exact ih (lo := b + 1) (by omega) hm.2

/-- A write keeps the canonical form. -/
theorem Memory.wfFrom_write {lo a : Nat} (ha : lo ≤ a) (hx : a < Memory.extent) (v : BitVec 8)
    {m : Memory} (hm : m.wfFrom lo = true) : (m.write a v).wfFrom lo = true := by
  induction m generalizing lo with
  | nil =>
    simp only [Memory.write]
    split
    · rfl
    · simp_all [Memory.wfFrom]
  | cons c rest ih =>
    obtain ⟨b, w⟩ := c
    simp only [Memory.wfFrom, Bool.and_eq_true, decide_eq_true_eq] at hm
    simp only [Memory.write]
    split_ifs with h1 h2 h3 h4
    · simp_all [Memory.wfFrom]
    · simp only [Memory.wfFrom, Bool.and_eq_true, decide_eq_true_eq]
      exact ⟨⟨ha, hx, h2⟩, ⟨by omega, hm.1.2⟩, hm.2⟩
    · exact Memory.wfFrom_mono (by omega) hm.2
    · subst h3
      simp only [Memory.wfFrom, Bool.and_eq_true, decide_eq_true_eq]
      exact ⟨⟨ha, hx, h4⟩, hm.2⟩
    · simp only [Memory.wfFrom, Bool.and_eq_true, decide_eq_true_eq]
      exact ⟨hm.1, ih (by omega) hm.2⟩

/-- What any byte reads after one byte of a canonical memory is written. -/
theorem Memory.read_write {lo a : Nat} (ha : lo ≤ a) (v : BitVec 8) (b : Nat)
    {m : Memory} (hm : m.wfFrom lo = true) :
    (m.write a v).read b = if b = a then v else m.read b := by
  induction m generalizing lo with
  | nil =>
    simp only [Memory.write, Memory.read]
    split_ifs with h1 h2 h3 <;> simp_all [Memory.read]
  | cons c rest ih =>
    obtain ⟨x, w⟩ := c
    simp only [Memory.wfFrom, Bool.and_eq_true, decide_eq_true_eq] at hm
    simp only [Memory.write]
    by_cases h1 : a < x
    · have hb : Memory.read rest a = Memory.blank :=
          Memory.read_below (lo := x + 1) (by omega) hm.2
      by_cases hv : v = Memory.blank
      · rw [if_pos h1, if_pos hv]
        by_cases hba : b = a
        · subst hba
          rw [if_pos rfl, Memory.read, if_neg (by omega), hb, hv]
        · rw [if_neg hba]
      · rw [if_pos h1, if_neg hv, Memory.read]
    · rw [if_neg h1]
      by_cases h2 : a = x
      · subst h2
        have hb : Memory.read rest a = Memory.blank :=
          Memory.read_below (lo := a + 1) (by omega) hm.2
        rw [if_pos rfl]
        by_cases hv : v = Memory.blank
        · rw [if_pos hv, Memory.read]
          by_cases hba : b = a
          · subst hba
            rw [if_pos rfl, hb, hv]
          · rw [if_neg hba, if_neg hba]
        · rw [if_neg hv, Memory.read, Memory.read]
          split_ifs <;> rfl
      · rw [if_neg h2, Memory.read, Memory.read, ih (lo := x + 1) (by omega) hm.2]
        split_ifs with h3 h4 <;> first | rfl | omega

/-- Every byte of a payload has an address inside the pool. -/
theorem payloadAddress_lt (bufs : List (Fin 384)) (i : Nat) :
    payloadAddress bufs i < Memory.extent := by
  have h := (bufs.getD (i / Config.bufferBytes) 0).isLt
  simp only [payloadAddress, Memory.extent, Config.bufferBytes] at *
  omega

/-- Writing a payload keeps the canonical form. -/
theorem Memory.wf_writePayload {m : Memory} (bufs : List (Fin 384)) (i : Nat)
    (payload : List (BitVec 8)) (hm : m.wf = true) : (m.writePayload bufs i payload).wf = true := by
  induction payload generalizing m i with
  | nil => exact hm
  | cons b rest ih =>
    exact ih _ (Memory.wfFrom_write (Nat.zero_le _) (payloadAddress_lt _ _) b hm)

/-- Writing a payload changes no byte but the payload's. -/
theorem Memory.read_writePayload_ne {m : Memory} (bufs : List (Fin 384)) (i : Nat)
    (payload : List (BitVec 8)) (a : Nat) (hm : m.wf = true)
    (h : ∀ k, k < payload.length → payloadAddress bufs (i + k) ≠ a) :
    (m.writePayload bufs i payload).read a = m.read a := by
  induction payload generalizing m i with
  | nil => rfl
  | cons b rest ih =>
    have h0 := h 0 (by simp)
    rw [Memory.writePayload, ih (i + 1)
      (Memory.wfFrom_write (Nat.zero_le _) (payloadAddress_lt _ _) b hm)
      (fun k hk => by
        have := h (k + 1) (by simpa using hk)
        rwa [show i + (k + 1) = i + 1 + k by omega] at this)]
    rw [Memory.read_write (Nat.zero_le _) b a hm, if_neg (fun e => h0 (by simpa using e.symm))]

/-- Two bytes of one payload share no address, the list's buffers being distinct. -/
theorem payloadAddress_inj {bufs : List (Fin 384)} (hn : bufs.Nodup) {i j : Nat}
    (hi : i < Config.bufferBytes * bufs.length) (hj : j < Config.bufferBytes * bufs.length)
    (h : payloadAddress bufs i = payloadAddress bufs j) : i = j := by
  simp only [payloadAddress, Config.bufferBytes] at *
  have hi' : i / 64 < bufs.length := by omega
  have hj' : j / 64 < bufs.length := by omega
  have hv : (bufs.getD (i / 64) 0).val = (bufs.getD (j / 64) 0).val := by omega
  have he : bufs[i / 64] = bufs[j / 64] := by
    apply Fin.ext
    simpa [List.getD_eq_getElem?_getD, hi', hj'] using hv
  have := (List.Nodup.getElem_inj_iff hn).1 he
  omega

/-- A payload written into enough distinct buffers reads back byte for byte (R7). -/
theorem Memory.read_writePayload {m : Memory} {bufs : List (Fin 384)} (hn : bufs.Nodup) (i : Nat)
    (payload : List (BitVec 8)) (hm : m.wf = true)
    (hl : i + payload.length ≤ Config.bufferBytes * bufs.length) (k : Nat) (hk : k < payload.length) :
    (m.writePayload bufs i payload).read (payloadAddress bufs (i + k)) = payload[k] := by
  induction payload generalizing m i k with
  | nil => simp at hk
  | cons b rest ih =>
    have hw := Memory.wfFrom_write (Nat.zero_le _) (payloadAddress_lt bufs i) b hm
    simp only [List.length_cons] at hl hk
    cases k with
    | zero =>
      rw [Memory.writePayload, Memory.read_writePayload_ne bufs (i + 1) rest _ hw]
      · rw [Memory.read_write (Nat.zero_le _) b _ hm]
        simp
      · intro k hk' e
        have := payloadAddress_inj hn (by omega) (by omega) e
        omega
    | succ k =>
      rw [Memory.writePayload, show i + (k + 1) = i + 1 + k by omega,
        ih (i + 1) hw (by omega) k (by omega)]
      rfl

/-- The whole payload reads back (R7). -/
theorem Memory.readPayload_writePayload {m : Memory} {bufs : List (Fin 384)} (hn : bufs.Nodup)
    (payload : List (BitVec 8)) (hm : m.wf = true)
    (hl : payload.length ≤ Config.bufferBytes * bufs.length) :
    (m.writePayload bufs 0 payload).readPayload bufs payload.length = payload := by
  apply List.ext_getElem
  · simp [Memory.readPayload]
  · intro k _ hk
    have := Memory.read_writePayload hn 0 payload hm (by omega) k hk
    simpa [Memory.readPayload] using this

/-- The memory right after reset has the canonical form. -/
theorem State.reset_mem_wf : State.reset.mem.wf = true := rfl

end Sys2Proof.Machine
end

