-- ==== Sys2Proof/Laws/Told.lean ====
section
/-! SUPPORT. What raises do to an event unit, said once (R163, R164): an act that raises nothing, one raise, and
one act after another. -/

namespace Sys2Proof.Machine

/-- Adding one event to a set of flags makes that event pending and no other. -/
theorem bit_or (flags : EventSet) (e d : Event) :
    e.bit &&& (flags ||| d.bit) = e.bit ↔ e.bit &&& flags = e.bit ∨ e = d := by
  revert flags
  cases e <;> cases d <;> decide

/-- A set of flags that holds every event of another meets whatever the other meets. -/
theorem meets_of_subset {a b en : EventSet}
    (h : ∀ e : Event, e.bit &&& a = e.bit → e.bit &&& b = e.bit) (ha : a &&& en ≠ 0#7) :
    b &&& en ≠ 0#7 := by
  have key : ∀ i, i < 7 → a.getLsbD i = true → b.getLsbD i = true := by
    have bits : ∀ c : EventSet,
        (Event.level.bit &&& c = Event.level.bit ↔ c.getLsbD 0 = true) ∧
        (Event.poolLow.bit &&& c = Event.poolLow.bit ↔ c.getLsbD 1 = true) ∧
        (Event.overrun.bit &&& c = Event.overrun.bit ↔ c.getLsbD 2 = true) ∧
        (Event.linkError.bit &&& c = Event.linkError.bit ↔ c.getLsbD 3 = true) ∧
        (Event.reportLost.bit &&& c = Event.reportLost.bit ↔ c.getLsbD 4 = true) ∧
        (Event.mailboxClosed.bit &&& c = Event.mailboxClosed.bit ↔ c.getLsbD 5 = true) ∧
        (Event.portDown.bit &&& c = Event.portDown.bit ↔ c.getLsbD 6 = true) := by decide
    obtain ⟨a0, a1, a2, a3, a4, a5, a6⟩ := bits a
    obtain ⟨b0, b1, b2, b3, b4, b5, b6⟩ := bits b
    intro i hi hai
    match i, hi with
    | 0, _ => exact b0.1 (h _ (a0.2 hai))
    | 1, _ => exact b1.1 (h _ (a1.2 hai))
    | 2, _ => exact b2.1 (h _ (a2.2 hai))
    | 3, _ => exact b3.1 (h _ (a3.2 hai))
    | 4, _ => exact b4.1 (h _ (a4.2 hai))
    | 5, _ => exact b5.1 (h _ (a5.2 hai))
    | 6, _ => exact b6.1 (h _ (a6.2 hai))
  intro hb
  refine ha (BitVec.eq_of_getLsbD_eq fun i hi => ?_)
  have := congrArg (·.getLsbD i) hb
  simp only [BitVec.getLsbD_and, BitVec.getLsbD_zero] at this ⊢
  cases hai : a.getLsbD i
  · rfl
  · simpa [key i hi hai] using this

/-- An act that leaves a record alone raises nothing there. -/
theorem Told.refl (x : Port) : Told x x fun _ => False where
  rest := rfl
  flags e := by simp
  closed h := ⟨h, rfl⟩
  opened h := by simp [h]
  queued h := by simp [h]

/-- One raise (R163, R164). -/
theorem told_raise (x : Port) (e : Event) : Told x (x.raise e) fun ev => ev = e := by
  by_cases hs : x.session = .up
  · have hr : x.raise e = Port.evalNotice { x with flags := x.flags ||| e.bit } := by
      simp [Port.raise, hs]
    rw [hr]
    unfold Port.evalNotice
    constructor
    · split <;> rfl
    · intro d
      split <;> simpa [hs] using bit_or x.flags d e
    · intro h
      simp [h]
    · intro h
      split <;> simp_all
    · intro h
      split <;> simp_all
  · have hr : x.raise e = x := by simp [Port.raise, hs]
    rw [hr]
    exact ⟨rfl, fun d => by simp [hs], fun h => ⟨h, rfl⟩, fun h => by simp [h, hs],
      fun h => by simp [h]⟩

/-- The session and the enables that a told record keeps. -/
theorem Told.kept {x y : Port} {due : Event → Prop} (h : Told x y due) :
    y.session = x.session ∧ y.enables = x.enables := by
  have := h.rest
  simp only [Port.aside, Port.mk.injEq] at this
  exact ⟨this.1, by tauto⟩

/-- Two acts, one after the other. -/
theorem Told.trans {x y z : Port} {d₁ d₂ : Event → Prop} (h₁ : Told x y d₁) (h₂ : Told y z d₂) :
    Told x z fun e => d₁ e ∨ d₂ e := by
  obtain ⟨hs, he⟩ := h₁.kept
  have sub : ∀ e : Event, e.bit &&& y.flags = e.bit → e.bit &&& z.flags = e.bit :=
    fun e h => (h₂.flags e).2 (.inl h)
  refine ⟨h₂.rest.trans h₁.rest, fun e => ?_, fun h => ?_, fun h => ?_, fun h => ?_⟩
  · rw [h₂.flags, h₁.flags, hs]
    tauto
  · obtain ⟨a, b⟩ := h₁.closed h
    obtain ⟨c, d⟩ := h₂.closed a
    exact ⟨c, d.trans b⟩
  · cases hy : y.noticeOutstanding with
    | true =>
      obtain ⟨up, ⟨e, de⟩, ne⟩ := (h₁.opened h).1 hy
      exact iff_of_true (h₂.closed hy).1 ⟨up, ⟨e, .inl de⟩, meets_of_subset sub ne⟩
    | false =>
      rw [h₂.opened hy, hs, he]
      constructor
      · rintro ⟨up, ⟨e, de⟩, ne⟩
        exact ⟨up, ⟨e, .inr de⟩, ne⟩
      · rintro ⟨up, ⟨e, de⟩, ne⟩
        by_cases h2 : ∃ e, d₂ e
        · exact ⟨up, h2, ne⟩
        · have hno : ¬ (y.flags &&& x.enables ≠ 0#7) := by
            intro hn
            have : ∃ e, d₁ e := by
              rcases de with de | de
              · exact ⟨e, de⟩
              · exact absurd ⟨e, de⟩ h2
            have := (h₁.opened h).2 ⟨up, this, hn⟩
            simp [hy] at this
          refine absurd (meets_of_subset (fun f hf => ?_) ne) hno
          rcases (h₂.flags f).1 hf with hf | ⟨_, hf⟩
          · exact hf
          · exact absurd ⟨f, hf⟩ h2
  · cases hy : y.noticeOutstanding with
    | true =>
      rw [(h₂.closed hy).2, h₁.queued h, hy, (h₂.closed hy).1]
    | false =>
      rw [h₂.queued hy, h₁.queued h, hy, Bool.or_false]

end Sys2Proof.Machine
end

