-- ==== Sys2Proof/Tests/Slice0.lean ====
section
/-! SUPPORT. Tests: a small state built by a helper, one-step tests whose expected results stand in the spec,
the WellFormed smoke, frames written out from 8.3, and for each statement with hypotheses a state and
operands that meet them. -/

namespace Sys2Proof.Tests

open Sys2Proof.Machine

set_option Elab.async false

/-! ### A small state -/

/-- The message that the small state holds: sent by port 0, 1 byte, HIGH, tag 7. -/
def msg : Descriptor :=
  { senderPort := 0, senderEpoch := 1#16, tag := 7#16, cls := .high, length := 1, buffers := [0],
    sequence := 1#32, deadline := some 9, reportWanted := true, cancelRequested := false,
    expired := false, refCount := 1, targets := 1, skipped := 0, tally := Tally.zero }

/-- Its one entry: QUEUED, or with offer id 5 AWAITING until `ack`. -/
def ent (ack : Option Nat) : Entry :=
  { descriptor := 0, mailbox := 3, attempts := if ack.isSome then 1 else 0,
    offer := ack.map fun t => { id := 5#8, phase := .awaiting t } }

/-- Mailbox 3, port 1's. -/
def box (loaded : Bool) (ms : MailboxState) : Mailbox :=
  { Mailbox.blank with
    state := ms, owner := 1, depth := 2, ackWindow := 100, retryLimit := 2, armed := true,
    queue := if loaded then [0] else []
    dormancyDeadline := if ms = .dormant then some 6 else none }

/-- Ports 0 (principal) and 1 are UP, the others ANNOUNCED. -/
def link (ack : Option Nat) (p : PortId) : Port :=
  if 2 ≤ p then { Port.powerOn false with session := .announced }
  else
    { Port.powerOn (decide (p = 0)) with
      session := .up, epoch := 1#16, window := some 2
      inFlight := if p = 1 ∧ ack.isSome then [0] else [] }

/-- A part after its power-on test: mailbox 3 in state `ms`, loaded with one message or empty, the message
on offer since `ack` is given, group 32 STRICT with mailbox 3. -/
def bench (mode : Mode) (loaded : Bool) (ms : MailboxState) (ack : Option Nat) : State :=
  { State.powerOnValues 0#3 0#2 with
    mode := mode, startUp := false, goodCount := 384
    descriptors := (Table.replicate 128 none).set 0 (if loaded then some msg else none)
    entries := (Table.replicate 256 none).set 0 (if loaded then some (ent ack) else none)
    buffers := (Table.replicate 384 .free).set 0 (if loaded then .inUse else .free)
    mailboxes := (Table.replicate 32 Mailbox.blank).set 3 (box loaded ms)
    groups := (Table.replicate 8 Group.undefined).set 0 { policy := some .strict, members := [3] }
    ports := Table.ofFn (link ack) }

section

variable {mode : Mode} {loaded : Bool} {ms : MailboxState} {ack : Option Nat}

theorem bench_port (p : PortId) : (bench mode loaded ms ack).port p = link ack p := by
  simp [bench, State.port]

theorem bench_mbx (m : MailboxId) :
    (bench mode loaded ms ack).mbx m = if m = 3 then box loaded ms else Mailbox.blank := by
  simp [bench, State.mbx, Table.get_set]

theorem bench_grp (g : GroupId) : (bench mode loaded ms ack).grp g =
    if g = 0 then { policy := some .strict, members := [3] } else Group.undefined := by
  simp [bench, State.grp, Table.get_set]

theorem bench_desc (d : DescId) :
    (bench mode loaded ms ack).desc d = if d = 0 ∧ loaded then some msg else none := by
  by_cases h : d = 0 <;> simp [bench, State.desc, Table.get_set, h]

theorem bench_entry (e : EntryId) :
    (bench mode loaded ms ack).entry e = if e = 0 ∧ loaded then some (ent ack) else none := by
  by_cases h : e = 0 <;> simp [bench, State.entry, Table.get_set, h]

theorem bench_buffers (b : BufferId) :
    (bench mode loaded ms ack).buffers.get b = if b = 0 ∧ loaded then .inUse else .free := by
  by_cases h : b = 0 <;> simp [bench, Table.get_set, h]

/-- Ports 0 and 1 of the small state serve. -/
theorem bench_serves (hm : mode ≠ .fault) {p : PortId} (hp : p < 2) :
    Serves (bench mode loaded ms ack) p := by
  have h : ¬ 2 ≤ p := Nat.not_le.2 hp
  refine ⟨rfl, ?_, ?_, hm⟩ <;> simp [bench_port, link, h, Port.powerOn, Config.replySlots]

/-- The ports that are not UP hear. -/
theorem bench_hears (p : PortId) : Hears (bench mode loaded ms ack) p := by
  refine ⟨rfl, ?_, ?_⟩ <;> rw [bench_port] <;> unfold link <;> split <;>
    simp [Port.powerOn, Config.replySlots]

/-- One entry names the message. -/
theorem bench_entriesOf : (bench mode true ms ack).entriesOf 0 = 1 := by
  have he : (bench mode true ms ack).entries =
      (Table.replicate 256 none).set 0 (some (ent ack)) := rfl
  unfold State.entriesOf
  rw [he, Table.count_one _ _ _ _ rfl]
  rfl

/-- The small state is lawful. -/
theorem bench_lawful (hm : mode = .running ∨ (mode = .testing ∧ loaded = false))
    (hs : ms = .opened ∨ ms = .dormant) (ha : ack.isSome = true → loaded = true ∧ ms = .opened) :
    Lawful (bench mode loaded ms ack) where
  ports p := by
    rw [bench_port]
    by_cases h : 2 ≤ p
    · constructor <;> simp [link, h, Port.powerOn, Config.replySlots, Config.reportPlaces]
    · constructor <;> simp [link, h, Port.powerOn, Config.replySlots, Config.reportPlaces]
      split <;> simp
  mode := by
    constructor
    · intro h d
      rcases hm with hm | ⟨_, hl⟩
      · exact absurd hm h
      · simp [bench_desc, hl]
    · intro h
      have : mode = .fault := h
      rcases hm with hm | ⟨hm, _⟩ <;> simp [hm] at this
    · intro h
      exact absurd h (by simp [bench])
    · intro _ p
      rw [bench_port]
      unfold link
      split <;> simp
  groups g := by
    rw [bench_grp]
    split
    · refine ⟨by simp, by simp [Config.maxMembers], by simp, ?_⟩
      intro m hmem
      have : m = 3 := by simpa using hmem
      subst this
      rw [bench_mbx]
      simpa [box] using hs
    · simp [Group.undefined]
  store := by
    have he : ∀ e en, (bench mode loaded ms ack).entry e = some en →
        e = 0 ∧ loaded = true ∧ en = ent ack := by
      intro e en h
      rw [bench_entry] at h
      split at h
      · next h' => exact ⟨h'.1, h'.2, by simpa using h.symm⟩
      · cases h
    have hd : ∀ i d, (bench mode loaded ms ack).desc i = some d →
        i = 0 ∧ loaded = true ∧ d = msg := by
      intro i d h
      rw [bench_desc] at h
      split at h
      · next h' => exact ⟨h'.1, h'.2, by simpa using h.symm⟩
      · cases h
    have hq : ∀ m e, e ∈ ((bench mode loaded ms ack).mbx m).queue →
        m = 3 ∧ e = 0 ∧ loaded = true := by
      intro m e h
      rw [bench_mbx] at h
      split at h
      · next h' => cases loaded <;> simp_all [box]
      · simp [Mailbox.blank] at h
    have hf : ∀ p e, e ∈ ((bench mode loaded ms ack).port p).inFlight →
        p = 1 ∧ e = 0 ∧ ack.isSome = true := by
      intro p e h
      rw [bench_port] at h
      unfold link at h
      split at h
      · simp [Port.powerOn] at h
      · simp only at h
        split at h
        · next h' => exact ⟨h'.1, by simpa using h, h'.2⟩
        · cases h
    have q3 : ((bench mode loaded ms ack).mbx 3).queue = if loaded then [0] else [] := by
      simp [bench_mbx, box]
    constructor
    · intro e en h
      obtain ⟨rfl, hl, rfl⟩ := he e en h
      simp [bench_desc, bench_mbx, ent, box, hl]
    · intro m
      rw [bench_mbx]
      split
      · simp [box, Mailbox.blank]
      · simp [Mailbox.blank]
    · intro e en h
      obtain ⟨rfl, hl, rfl⟩ := he e en h
      cases ack <;> simp [ent, Entry.queued, bench_mbx, box]
    · intro m e h
      obtain ⟨rfl, rfl, hl⟩ := hq m e h
      exact ⟨ent ack, by simp [bench_entry, hl], rfl⟩
    · intro m
      rw [bench_mbx]
      split
      · cases loaded <;> rcases hs with hs | hs <;> simp [box, hs]
      · simp [Mailbox.blank]
    · intro m
      rw [bench_mbx]
      split
      · cases loaded <;> simp [box]
      · simp [Mailbox.blank]
    · intro i d h
      obtain ⟨rfl, rfl, rfl⟩ := hd i d h
      exact ⟨bench_entriesOf.symm, by simp [msg]⟩
    · intro i d h
      obtain ⟨rfl, rfl, rfl⟩ := hd i d h
      simp [msg, Tally.sum, Tally.zero]
    · intro e f x y hx hy _ _
      rw [(he e x hx).1, (he f y hy).1]
    · intro p e h
      obtain ⟨rfl, rfl, h3⟩ := hf p e h
      refine ⟨ent ack, by simp [bench_entry, (ha h3).1], ?_, by simp [bench_mbx, ent, box]⟩
      cases ack <;> simp_all [ent, Entry.queued]
    · intro e en h hn
      obtain ⟨rfl, hl, rfl⟩ := he e en h
      have : ack.isSome = true := by cases ack <;> simp_all [ent, Entry.queued]
      simp [bench_mbx, bench_port, ent, box, link, this]
    · intro p
      rw [bench_port]
      unfold link
      split
      · simp [Port.powerOn]
      · simp only
        split <;> simp
    · intro p pr h
      rw [bench_port] at h
      unfold link at h
      split at h <;> simp [Port.powerOn] at h
    · intro p e en o h1 h2 h3
      obtain ⟨rfl, hl, rfl⟩ := he e en h2
      have hp : ((bench mode loaded ms ack).port p).prepared = none := by
        rw [bench_port]
        unfold link
        split <;> rfl
      rw [hp]
      cases ack with
      | none => simp [ent] at h3
      | some t =>
        have : o = ⟨5#8, .awaiting t⟩ := by simpa [ent] using h3.symm
        simp [this]
    · intro p
      rw [bench_port]
      unfold link
      split
      · simp [Port.powerOn]
      · simp only
        split <;> simp
    · intro m h
      rw [bench_mbx] at h
      split at h
      · rcases hs with hs | hs <;> simp [box, hs] at h
      · simp [Mailbox.blank] at h
    · intro m h e hm'
      obtain ⟨rfl, rfl, hl⟩ := hq m e hm'
      have : ms = .dormant := by simpa [bench_mbx, box] using h
      cases ack with
      | none => simp [State.isQueued, bench_entry, hl, ent, Entry.queued]
      | some t => exact absurd (ha rfl).2 (by simp [this])
    · intro m h
      rw [bench_mbx] at h ⊢
      split
      · simp [bench_port, box, link]
      · next h' => simp [h', Mailbox.blank] at h

end

/-- The command runs and what follows it has the property. -/
def runs (c : Instr) (s : State) (f : State → Bool) : Bool :=
  match exec c s with
  | .next t => f t
  | .fault _ => false
  | .refused _ => false

/-- The last reply of a port. -/
def lastReply (s : State) (p : PortId) : Option (Byte × ReplyState) :=
  (s.port p).replies.getLast?.map fun r => (r.seq, r.state)

/-- One message QUEUED, mailbox 3 OPEN. -/
abbrev queued : State := bench .running true .opened none

/-- One message on offer, its ack deadline at 4 ms. -/
abbrev offered : State := bench .running true .opened (some 4)

/-- No message, mailbox 3 OPEN. -/
abbrev empty : State := bench .running false .opened none

/-- One message QUEUED, mailbox 3 DORMANT. -/
abbrev dormant : State := bench .running true .dormant none

/-! ### WellFormed, frames -/

/-- 241 payload bytes are refused (R151), 240 are not. -/
theorem test_wf_send :
    (Instr.send 0 0 0 0 0 0 0 0 (List.replicate 241 0#8)).wellFormed = false ∧
      (Instr.send 0 0 0 0 0 0 0 0 (List.replicate 240 0#8)).wellFormed = true := by
  decide +kernel

/-- A test that judges a buffer twice is refused (R176). -/
theorem test_wf_testEnd :
    (Instr.testEnd [3, 5, 3]).wellFormed = false ∧ (Instr.testEnd [3, 5]).wellFormed = true := by
  decide +kernel

/-- The nine bytes 0x31 to 0x39 leave 0x29B1 (R143). -/
theorem test_crc : crc [0x31, 0x32, 0x33, 0x34, 0x35, 0x36, 0x37, 0x38, 0x39] = 0x29B1#16 := by
  decide +kernel

/-- READ_EVENTS with SEQ 5: SYNC, LEN 2, KIND, SEQ and two CHECK bytes (8.2, R142). -/
theorem test_wire :
    (wireFrame Kind.readEvents 5#8 []).take 4 = [0xC9#8, 2#8, 0x1B#8, 5#8] ∧
      (wireFrame Kind.readEvents 5#8 []).length = 6 := by
  decide +kernel

/-- Bodies written out from R150 and R151: OPEN, SEND, CONFIGURE, ACCEPT, and a body too short. -/
theorem test_decode :
    decodeFrame 2 0x12#8 9#8 [255, 8, 0x01, 0xF4, 3, 0] =
        .openMailbox 2 9 255 8 500 3 0 ∧
      decodeFrame 0 0x18#8 1#8 [35, 2, 1, 0, 12, 0xEA, 0x60, 2, 0xAA, 0xBB] =
        .send 0 1 35 2 1 12 60000 2 [0xAA, 0xBB] ∧
      decodeFrame 0 0x1E#8 4#8 [0, 32, 0x0E, 0x10] = .configure 0 4 32 3600 ∧
      decodeFrame 4 0x30#8 77#8 [62] = .accept 4 62 ∧
      decodeFrame 4 0x31#8 77#8 [62] = .malformed 4 0x31 77 := by
  decide +kernel

/-! ### One step of each command -/

/-- The example of 7.4: epoch 65534 with LIVE descriptors of epochs 65535, 1 and 1 gives epoch 2. -/
theorem test_attach_epoch :
    runs (.attach 2 1 2 0)
      ({ empty with
        descriptors := (((Table.replicate 128 none).set 4 (some
          { msg with senderPort := 2, senderEpoch := 0xFFFF })).set 5 (some
          { msg with senderPort := 2, senderEpoch := 1 })).set 6 (some
          { msg with senderPort := 2, senderEpoch := 1 }) }.updPort 2 fun x =>
        { x with epoch := 65534 })
      (fun t => (t.port 2).epoch = 2 ∧ (t.port 2).session = .up ∧ (t.port 2).window = some 2) =
      true := by
  decide +kernel

/-- ATTACH with window 5 is RANGE, and the port stays ANNOUNCED (R127). -/
theorem test_attach_range :
    runs (.attach 2 1 5 0) empty (fun t =>
      lastReply t 2 = some (1, .ready .range .none) ∧ (t.port 2).session = .announced) =
      true := by
  decide +kernel

/-- DETACH (R131, R41, R136): ANNOUNCED, the OPEN mailbox DORMANT, PORT_DOWN pending at port 0. -/
theorem test_detach :
    runs (.detach 1 8) queued (fun t =>
      (t.port 1).session = .announced ∧ (t.mbx 3).state = .dormant ∧ (t.port 0).flags = 0x40#7 ∧
        lastReply t 1 = some (8, .ready .ok (.detached 1))) = true := by
  decide +kernel

/-- OPEN with id 255 takes the FREE mailbox of lowest id (R28). -/
theorem test_open_any :
    runs (.openMailbox 1 2 255 32 10000 15 32) empty (fun t =>
      (t.mbx 0).state = .opened ∧ (t.mbx 0).owner = 1 ∧
        lastReply t 1 = some (2, .ready .ok (.openedMailbox 0 32 10000 15 32))) = true := by
  decide +kernel

/-- A watermark above the depth limit is RANGE before WRONG_STATE (R27). -/
theorem test_open_order :
    runs (.openMailbox 1 2 3 4 1 1 5) empty (fun t =>
      lastReply t 1 = some (2, .ready .range .none)) = true := by
  decide +kernel

/-- CLOSE purges the QUEUED entry, frees the mailbox and reports PURGED to the sender (R30, R97). -/
theorem test_close_now :
    runs (.close 1 81 3) queued (fun t =>
      t.mbx 3 = Mailbox.blank ∧ t.desc 0 = none ∧ (t.grp 0).members = [] ∧
        (t.port 0).reports.map (·.summary) = [.purged] ∧
        lastReply t 1 = some (81, .ready .ok (.closedMailbox 3 1))) = true := by
  decide +kernel

/-- With an offer out CLOSE leaves CLOSING and defers its reply (R30). -/
theorem test_close_later :
    runs (.close 1 81 3) offered (fun t =>
      (t.mbx 3).state = .closing ∧ (t.mbx 3).closeReply = some (1, 81) ∧
        lastReply t 1 = some (81, .deferred (.close 3))) = true := by
  decide +kernel

/-- HOLD answers with the queue length (R37). -/
theorem test_hold :
    runs (.hold 1 4 3) queued (fun t =>
      (t.mbx 3).held = true ∧ lastReply t 1 = some (4, .ready .ok (.queueLength 3 1))) =
      true := by
  decide +kernel

/-- RESUME from a port that is not the owner is NOT_OWNER (R38). -/
theorem test_resume_owner :
    runs (.resume 0 4 3) queued (fun t =>
      lastReply t 0 = some (4, .ready .notOwner .none)) = true := by
  decide +kernel

/-- RECLAIM by the principal makes it the owner (R39). -/
theorem test_reclaim :
    runs (.reclaim 0 4 3) dormant (fun t =>
      (t.mbx 3).state = .opened ∧ (t.mbx 3).owner = 0 ∧ (t.mbx 3).dormancyDeadline = none) =
      true := by
  decide +kernel

/-- 6 ms before the deadline the dormancy time shows 1 s (R40 note 2). -/
theorem test_query_mailbox :
    runs (.queryMailbox 0 4 3) dormant (fun t =>
      match lastReply t 0 with
      | some (_, .ready .ok (.mailbox v)) =>
        decide (v.dormancyRemaining = 1 ∧ v.length = 1 ∧ v.offered = 0)
      | _ => false) = true := by
  decide +kernel

/-- A FREE mailbox shows FREE and every other result, the id too, at 0 or no (R40 note 1). -/
theorem test_query_free_mailbox :
    runs (.queryMailbox 0 4 9) empty (fun t =>
      lastReply t 0 = some (4, .ready .ok (.mailbox
        ⟨0, .free, 0, false, 0, 0, 0, 0, false, 0, 0, 0, false⟩))) = true := by
  decide +kernel

/-- SEND of 65 bytes takes two buffers (R7, R11) and answers OK with sequence 1 (R55). -/
theorem test_send :
    runs (.send 0 9 3 2 1 8 0 65 (List.replicate 65 0xA5)) empty (fun t =>
      t.freeBuffers = 382 ∧ t.freeDescriptors = 127 ∧ (t.mbx 3).queue.length = 1 ∧
        t.mem.length = 65 ∧ lastReply t 0 = some (9, .ready .ok (.sent 1 1 0))) = true := by
  decide +kernel

/-- A tag in use is DUP_TAG although the group is UNDEFINED (R46: check 3 before check 4). -/
theorem test_send_order :
    runs (.send 0 9 39 2 1 7 0 0 []) queued (fun t =>
      lastReply t 0 = some (9, .ready .dupTag .none)) = true := by
  decide +kernel

/-- CANCEL with the one offer out is PARTIAL with removed 0 and in flight 1 (3.10). -/
theorem test_cancel_partial :
    runs (.cancel 0 9 7) offered (fun t =>
      (t.desc 0).map (·.cancelRequested) = some true ∧
        lastReply t 0 = some (9, .ready .partialCancel (.partlyCancelled 1 0 1))) = true := by
  decide +kernel

/-- CANCEL from another port finds no message (R58). -/
theorem test_cancel_none :
    runs (.cancel 1 9 7) queued (fun t =>
      lastReply t 1 = some (9, .ready .noTag .none)) = true := by
  decide +kernel

/-- SET_EVENTS with a pending flag newly enabled queues a notice (R166). -/
theorem test_set_events :
    runs (.setEvents 1 3 0x7F) (empty.updPort 1 fun x => { x with flags := 1#7 }) (fun t =>
      (t.port 1).noticeQueued = true ∧ (t.port 1).flags = 1#7 ∧
        lastReply t 1 = some (3, .ready .ok (.events 0x7F 1))) = true := by
  decide +kernel

/-- READ_EVENTS reports and clears (R167). -/
theorem test_read_events :
    runs (.readEvents 1 3)
      (empty.updPort 1 fun x => { x with flags := 9#7, noticeOutstanding := true })
      (fun t => (t.port 1).flags = 0#7 ∧ (t.port 1).noticeOutstanding = false ∧
        lastReply t 1 = some (3, .ready .ok (.pending 9))) = true := by
  decide +kernel

/-- QUERY_POOL on an ANNOUNCED port (R121, R187). -/
theorem test_query_pool :
    runs (.queryPool 4 3) queued (fun t =>
      lastReply t 4 =
        some (3, .ready .ok (.pool ⟨.running, 384, 127, 255, 383, 0, 32, true, 0⟩))) = true := by
  decide +kernel

/-- QUERY_PORT counts a DORMANT mailbox among those owned (R138). -/
theorem test_query_port :
    runs (.queryPort 0 3 1) dormant (fun t =>
      lastReply t 0 =
        some (3, .ready .ok (.port ⟨1, .up, 1, false, 2, 0, 1, 1, 0, 0, 0, 0⟩))) = true := by
  decide +kernel

/-- Raising the low mark above the free count raises POOL_LOW at every UP port at once (R20). -/
theorem test_configure :
    runs (.configure 0 3 384 3600) queued (fun t =>
      t.lowMark = 384 ∧ t.poolArmed = false ∧ (t.port 1).flags = 2#7 ∧
        (t.port 2).flags = 0#7) = true := by
  decide +kernel

/-- GROUP_DEFINE of a DEFINED group keeps its list (R111). -/
theorem test_group_define :
    runs (.groupDefine 0 3 32 1) empty (fun t =>
      lastReply t 0 = some (3, .ready .ok (.group 0 (some .lenient) [3]))) = true := by
  decide +kernel

/-- GROUP_ADD of a member is WRONG_STATE (R112). -/
theorem test_group_add :
    runs (.groupAdd 0 3 32 3) empty (fun t =>
      lastReply t 0 = some (3, .ready .wrongState .none)) = true := by
  decide +kernel

/-- GROUP_REMOVE (R114). -/
theorem test_group_remove :
    runs (.groupRemove 0 3 32 3) empty (fun t =>
      (t.grp 0).members = [] ∧ (t.grp 0).policy = some .strict) = true := by
  decide +kernel

/-- GROUP_DELETE of an UNDEFINED group is NO_SUCH (R115). -/
theorem test_group_delete :
    runs (.groupDelete 0 3 33) empty (fun t =>
      lastReply t 0 = some (3, .ready .noSuch .none)) = true := by
  decide +kernel

/-- FORCE_CLOSE tells the owner (R36). -/
theorem test_force_close :
    runs (.forceClose 0 3 3) queued (fun t =>
      t.mbx 3 = Mailbox.blank ∧ (t.port 1).flags = 0x20#7 ∧
        lastReply t 0 = some (3, .ready .ok (.closedMailbox 3 1))) = true := by
  decide +kernel

/-- CLEAR frees everything and ends no session (R182). -/
theorem test_clear :
    runs (.clear 0 3) offered (fun t =>
      t.desc 0 = none ∧ t.entry 0 = none ∧ t.freeBuffers = 384 ∧ (t.port 1).inFlight = [] ∧
        (t.port 1).session = .up ∧ t.grp 0 = ⟨some .strict, []⟩) = true := by
  decide +kernel

/-- RETEST with a message LIVE is WRONG_STATE (R178). -/
theorem test_retest :
    runs (.retest 0 3) queued (fun t =>
      t.mode = .running ∧ lastReply t 0 = some (3, .ready .wrongState .none)) = true := by
  decide +kernel

/-- ACCEPT completes the message: its buffer is free and its report waits (R77, R14, R97). -/
theorem test_accept :
    runs (.accept 1 5) offered (fun t =>
      t.desc 0 = none ∧ t.freeBuffers = 384 ∧ (t.mbx 3).queue = [] ∧
        (t.port 0).reports = [⟨7, 1, .delivered, 1, 0, ⟨1, 0, 0, 0, 0, 0⟩⟩]) = true := by
  decide +kernel

/-- DECLINE with requeue yes keeps the attempt counted (R78, R82 line 5, R83). -/
theorem test_decline_requeue :
    runs (.decline 1 5 1) offered (fun t =>
      t.entry 0 = some { descriptor := 0, mailbox := 3, attempts := 1, offer := none } ∧
        (t.port 1).inFlight = []) = true := by
  decide +kernel

/-- The example of 4.3: next offer id 9 with 9 in flight gives 10, and the next is 11. -/
theorem test_selection_id :
    runs (.selection 1)
      ((((offered.setEntry 0 (some { ent (some 4) with offer := some ⟨9, .awaiting 4⟩ })).setEntry 1
        (some { descriptor := 0, mailbox := 3, attempts := 0, offer := none })).updMbx 3 fun x =>
        { x with queue := [0, 1] }).updPort 1 fun x => { x with nextOfferId := 9 })
      (fun t => (t.port 1).nextOfferId = 11 ∧ (t.port 1).inFlight = [0, 1] ∧
        (t.port 1).prepared.map (·.frame.id) = some 10) = true := by
  decide +kernel

/-- A held mailbox is not offered from (R66 condition 4). -/
theorem test_selection_held :
    runs (.selection 1) (queued.updMbx 3 fun x => { x with held := true }) (fun t =>
      (t.port 1).inFlight = []) = true := by
  decide +kernel

/-- At the retry limit an expired offer is EXHAUSTED (R82 line 4). -/
theorem test_ack_exhausted :
    runs (.ackDeadlineExpiry 1 5) (offered.updMbx 3 fun x => { x with retryLimit := 1 }) (fun t =>
      t.entry 0 = none ∧ (t.port 0).reports.map (·.summary) = [.exhausted]) = true := by
  decide +kernel

/-- A lifetime expiry with the offer out sets the expired flag (R93). -/
theorem test_lifetime :
    runs (.lifetimeExpiry 0) offered (fun t =>
      (t.desc 0).map (fun d => (d.expired, d.deadline)) = some (true, none) ∧
        (t.entry 0).isSome) = true := by
  decide +kernel

/-- A dormancy expiry purges and frees (R43). -/
theorem test_dormancy :
    runs (.dormancyExpiry 3) dormant (fun t =>
      t.mbx 3 = Mailbox.blank ∧ t.entry 0 = none ∧ (t.grp 0).members = [] ∧
        (t.port 0).reports.map (·.summary) = [.purged]) = true := by
  decide +kernel

/-- A break on the owner's line withdraws the offer: QUEUED again, the attempt not counted (R85). -/
theorem test_break_start :
    runs (.breakStart 1) offered (fun t =>
      (t.port 1).session = .down ∧ (t.port 1).lineInBreak = true ∧
        (t.entry 0).map (·.attempts) = some 0 ∧ (t.mbx 3).state = .dormant) = true := by
  decide +kernel

/-- In the start-up interval a break end announces nothing (R125). -/
theorem test_break_end :
    runs (.breakEnd 1) (State.reset.updPort 1 fun x => { x with lineInBreak := true }) (fun t =>
      (t.port 1).lineInBreak = false ∧ (t.port 1).session = .down) = true := by
  decide +kernel

/-- A counter at 65535 stays there (R137). -/
theorem test_frame_discard :
    runs (.frameDiscard 1) (empty.updPort 1 fun x => { x with badFrames := 0xFFFF }) (fun t =>
      (t.port 1).badFrames = 0xFFFF ∧ (t.port 1).flags = 8#7) = true := by
  decide +kernel

/-- A gap discards the frame in progress (R146). -/
theorem test_gap :
    runs (.gapExpiry 4) (empty.updPort 4 fun x => { x with receiver := .length }) (fun t =>
      (t.port 4).badFrames = 1 ∧ (t.port 4).receiver = .hunt ∧ (t.port 4).flags = 0#7) = true := by
  decide +kernel

/-- A malformed frame's reply carries its KIND and SEQ (R147, R148). -/
theorem test_malformed :
    runs (.malformed 4 0x84 6) empty (fun t =>
      (t.port 4).replies = [⟨0x84, 6, .ready .malformed .none⟩]) = true := by
  decide +kernel

/-- HELLO goes before a ready reply (R159). -/
theorem test_arbiter :
    runs (.arbiterBeginFrame 4)
      (empty.updPort 4 fun x =>
        { x with helloPending := true, replies := [⟨0x84, 6, .ready .malformed .none⟩] })
      (fun t => (t.port 4).tx = .sending (.hello ⟨4, false, .running, 384, 0⟩) ∧
        (t.port 4).helloPending = false) = true := by
  decide +kernel

/-- An OFFER's last byte starts the ack window of its mailbox (R72, R73). -/
theorem test_last_byte :
    runs (.frameLastByteSent 1)
      ((offered.setEntry 0 (some { ent (some 4) with offer := some ⟨5, .sending⟩ })).updPort 1
        fun x => { x with
          prepared := some ⟨0, ⟨5, 3, 0, .high, 1, 7, 1, [0]⟩⟩
          tx := .sending (.offer ⟨5, 3, 0, .high, 1, 7, 1, [0]⟩) })
      (fun t => (t.entry 0).bind (·.offer) = some ⟨5, .awaiting 100⟩ ∧
        (t.port 1).prepared = none ∧ (t.port 1).tx = .idle) = true := by
  decide +kernel

/-- After the idle of a stopped frame the arbiter decides (R124). -/
theorem test_stopped_idle :
    runs (.stoppedFrameIdleEnd 1) (empty.updPort 1 fun x => { x with
        tx := .stopped, noticeQueued := true, flags := 4#7 })
      (fun t => (t.port 1).tx = .sending (.event 4)) = true := by
  decide +kernel

/-- PSEL 6 and 7 name no port (R188); every buffer is retired until the test ends (R174). -/
theorem test_power_on :
    runs (.powerOn 6 3) offered (fun t =>
      (t.ports.items.all fun x => !x.principal) ∧ t.rate = 3 ∧ t.retiredBuffers = 384 ∧
        t.mode = .testing) = true := by
  decide +kernel

/-- RESETn low takes no command until the release (R175). -/
theorem test_reset_asserted :
    runs .resetAsserted offered (fun t =>
      t.inReset ∧ t.desc 0 = none ∧
        runs (.queryPool 1 1) t (fun u => (u.port 1).replies.isEmpty)) = true := by
  decide +kernel

/-- A power-on test that fails two buffers (R125, R177). -/
theorem test_test_end :
    runs (.testEnd [7, 9]) State.reset (fun t =>
      t.mode = .running ∧ t.goodCount = 382 ∧ t.buffers.get 9 = .retired ∧
        (t.port 5).session = .announced ∧ (t.port 5).helloPending) = true := by
  decide +kernel

/-- 96 good buffers are enough, 95 are not (R172). -/
theorem test_test_end_mode : modeReached 96 = .running ∧ modeReached 95 = .fault := by decide

/-- The false start of 8.2: after the noise byte the host's SYNC is read as LEN 201. -/
theorem test_byte_false_start :
    runs (.byteTaken 1 0xC9) (empty.updPort 1 fun x => { x with receiver := .length }) (fun t =>
      (t.port 1).receiver = .body 201 [0xC9]) = true := by
  decide +kernel

/-- The last CHECK byte of READ_EVENTS brings its reply in the same act (R144, R147). -/
theorem test_byte_last :
    runs (.byteTaken 1 ((crc [2, 0x1B, 5]).extractLsb' 0 8))
      (empty.updPort 1 fun x => { x with
        receiver := .check [2, 0x1B, 5] (some ((crc [2, 0x1B, 5]).extractLsb' 8 8)) })
      (fun t => lastReply t 1 = some (5, .ready .ok (.pending 0)) ∧
        (t.port 1).receiver = .hunt) = true := by
  decide +kernel

/-- The outcome is a next state with the property. -/
def leaves (o : Host.Outcome State Fault Refusal) (f : State → Bool) : Bool :=
  match o with
  | .next t => f t
  | .fault _ | .refused _ => false

/-- A HELLO on the line, byte for byte (8.2, R155): part code, revision 1, port 2, no principal, RUNNING, 384
good buffers, rate code 3. -/
theorem test_hello_wire :
    (Frame.hello ⟨2, false, .running, 384, 3⟩).wire.take 13 =
      [0xC9, 11, 0x80, 0, 0x06, 0x32, 1, 2, 0, 1, 0x01, 0x80, 3] := by
  decide +kernel

/-- SYNC 0xC9 as a character: low, 1 0 0 1 0 0 1 1 from the least significant bit on, high (R140). -/
theorem test_character :
    character 0xC9#8 =
      [false, true, false, false, true, false, false, true, true, true] := by
  decide

/-- The character of SYNC on the idle line puts the receiver in LENGTH (R141, R144). -/
theorem test_character_taken :
    leaves (takeLevels 1 (character 0xC9#8) empty) (fun t =>
      (t.port 1).receiver = .length ∧ (t.port 1).line = .idle) = true := by
  decide +kernel

/-- A line low for 200 bit times inside a frame gives one byte of value 0 and no more (R141). -/
theorem test_low_period :
    leaves (takeLevels 1 (List.replicate 200 false)
      (empty.updPort 1 fun x => { x with receiver := .body 9 [] })) (fun t =>
        (t.port 1).receiver = .body 8 [0] ∧ (t.port 1).line = .holdOff) = true := by
  decide +kernel

/-- An EVENT notice begun on port 1's line. -/
abbrev noticing : State := empty.updPort 1 fun x => { x with tx := .sending (.event 4) }

/-- An EVENT frame is 7 bytes (8.6: 70 bit times); with the last stop bit its last byte has been sent (R160). -/
theorem test_frame_passes :
    leaves (passLevels 1 69 noticing) (fun t =>
      (t.port 1).tx = .sending (.event 4) ∧ t.txLevels 1 = [true]) = true ∧
    leaves (passLevels 1 70 noticing) (fun t =>
      (t.port 1).tx = .idle ∧ (t.port 1).txd = .idle) = true := by
  decide +kernel

/-- A break after three bits of the second byte, LEN 3: the frame stops after that byte, whose five high data
bits are low, and the line is high from then on (R124, R160). -/
theorem test_stop_after_current_byte :
    leaves (passLevels 1 13 noticing) (fun t =>
      leaves (exec (.breakStart 1) t) fun u =>
        (u.port 1).tx = .stopped ∧
          u.txLevels 1 = [false, false, false, false, false, false, true]) = true := by
  decide +kernel

/-! ### Witnesses: for each statement with hypotheses, a state and operands that meet them -/

theorem queued_lawful : Lawful queued := bench_lawful (.inl rfl) (.inl rfl) (by simp)
theorem offered_lawful : Lawful offered := bench_lawful (.inl rfl) (.inl rfl) (by simp)
theorem empty_lawful : Lawful empty := bench_lawful (.inl rfl) (.inl rfl) (by simp)
theorem dormant_lawful : Lawful dormant := bench_lawful (.inl rfl) (.inr rfl) (by simp)

/-- The small state while a RETEST runs. -/
abbrev testing : State := bench .testing false .opened none

theorem testing_lawful : Lawful testing := bench_lawful (.inr ⟨rfl, rfl⟩) (.inl rfl) (by simp)

/-- Ports 0 and 1 of a running small state serve. -/
theorem serves (l : Bool) (ms : MailboxState) (a : Option Nat) :
    Serves (bench .running l ms a) 0 ∧ Serves (bench .running l ms a) 1 :=
  ⟨bench_serves (by decide) (by decide), bench_serves (by decide) (by decide)⟩

/-- A port with a record put in place serves if that record does. -/
theorem serves_upd {s : State} {p : PortId} (h : Serves s p) (f : Mailbox → Mailbox)
    (m : MailboxId) : Serves (s.updMbx m f) p := ⟨h.awake, h.up, h.slot, h.mode⟩

theorem test_witness_StepRunsTheFrontCommand :
    ({ empty with pending := [.selection 0] } : State).pending = .selection 0 :: [] := rfl

theorem test_witness_IdleStepAdvancesTheTimeBase :
    State.reset.pending = [] ∧ State.reset.enterReset.pending = [] ∧
      State.reset.enterReset.inReset = true := ⟨rfl, rfl, rfl⟩

theorem test_witness_RefusalChangesNothing :
    encodeFrame (.hold 0 1 32) = some ⟨0, Kind.hold, 1, [32]⟩ ∧ Kind.hold ≠ Kind.accept ∧
      Kind.hold ≠ Kind.decline ∧ Hears empty 0 ∧
      exec (.hold 0 1 32) empty = .next (empty.replied 0 Kind.hold 1 .range .none) ∧
      ((empty.replied 0 Kind.hold 1 .range .none).port 0).replies.getLast? =
        some ⟨Kind.hold, 1, .ready .range .none⟩ := by
  refine ⟨by decide, by decide, by decide, bench_hears 0, ?_, by decide +kernel⟩
  have h := (serves false .opened none).1
  simp only [exec, execHold, event_awake _ h.awake]
  exact congrArg _ (takeCommand_refuse h rfl)

theorem test_witness_CommandStages :
    (Instr.hold 0 1 3).wellFormed = true ∧
      encodeFrame (.hold 0 1 3) = some ⟨0, Kind.hold, 1, [3]⟩ ∧
      encodeFrame (.hold 4 1 3) = some ⟨4, Kind.hold, 1, [3]⟩ ∧
      (State.reset.port 0).session = .down ∧
      ((empty.updPort 0 fun x =>
        { x with replies := List.replicate 4 ⟨0, 0, .sending⟩ }).port 0).replies.length = 4 ∧
      (({ empty with mode := .fault } : State).port 0).replies.length = 0 ∧
      (empty.port 4).session = .announced ∧ (empty.port 4).replies.length = 0 ∧
      empty.mode ≠ .fault := by
  decide +kernel

theorem test_witness_PrincipalCommandsNeedThePrincipal :
    encodeFrame (.clear 1 9) = some ⟨1, Kind.clear, 9, []⟩ ∧ Serves empty 1 ∧
      (empty.port 1).principal = false ∧
      Kind.clear ∈ [Kind.configure, Kind.groupDefine, Kind.groupAdd, Kind.groupRemove,
        Kind.groupDelete, Kind.forceClose, Kind.clear, Kind.retest] :=
  ⟨by decide, (serves _ _ _).2, by decide +kernel, by decide⟩

theorem test_witness_PowerOnSetsEveryPort : empty.pending = [] := rfl

theorem test_witness_ResetHoldsUntilPowerOn :
    empty.enterReset.inReset = true ∧ (∀ a b, Instr.selection 0 ≠ .powerOn a b) ∧
      Instr.selection 0 ≠ .resetAsserted :=
  ⟨rfl, fun _ _ => by simp, by decide⟩

/-- The mode laws hold after reset. -/
theorem reset_mode : ModeLaw State.reset where
  store _ d := by simp [State.desc, State.reset, State.powerOnValues]
  fault h := by exact absurd h (by decide)
  startUp _ := by
    refine ⟨rfl, fun m => ?_, fun p => ?_⟩
    · simp [State.mbx, State.reset, State.powerOnValues, Mailbox.blank]
    · simp [State.port, State.reset, State.powerOnValues, Port.powerOn]
  heard h := by exact absurd h (by decide)

theorem test_witness_PowerOnTestEndAnnounces :
    State.reset.inReset = false ∧ State.reset.startUp = true ∧ ModeLaw State.reset :=
  ⟨rfl, rfl, reset_mode⟩

/-- The buffers from `k` on, as the failed ones of a test. -/
def failedFrom (k : Nat) : List BufferId := (List.finRange 384).filter fun b => decide (k ≤ b.val)

theorem good_of_failedFrom (k : Nat) :
    ((List.finRange 384).filter fun b => decide (b ∉ failedFrom k)) =
      (List.finRange 384).filter fun b => decide (b.val < k) := by
  apply List.filter_congr
  intro b _
  simp [failedFrom, List.mem_finRange]

theorem test_witness_RetestEndInRunning :
    testing.inReset = false ∧ testing.startUp = false ∧ testing.mode = .testing ∧
      ((List.finRange 384).filter fun b => decide (b ∉ failedFrom 96)).length = 96 := by
  refine ⟨rfl, rfl, rfl, ?_⟩
  rw [good_of_failedFrom]
  decide +kernel

theorem test_witness_RetestEndInFault :
    Lawful testing ∧
      ((List.finRange 384).filter fun b => decide (b ∉ failedFrom 95)).length = 95 := by
  refine ⟨testing_lawful, ?_⟩
  rw [good_of_failedFrom]
  decide +kernel

theorem test_witness_RetestBeginsATest :
    Serves empty 0 ∧ (empty.port 0).principal = true ∧ empty.mode = .running ∧
      (∀ d, empty.desc d = none) ∧ Serves queued 0 ∧ (queued.desc 0).isSome ∧
      Serves empty 1 ∧ (empty.port 1).principal = false ∧ Serves testing 0 ∧
      testing.mode = .testing :=
  ⟨(serves _ _ _).1, by decide +kernel, rfl, fun d => by simp [bench_desc], (serves _ _ _).1,
    by decide +kernel, (serves _ _ _).2, by decide +kernel, bench_serves (by decide) (by decide),
    rfl⟩

theorem test_witness_ClearEmptiesTheExchange :
    Serves offered 0 ∧ (offered.port 0).principal = true ∧ offered.mode = .running ∧
      Serves offered 1 ∧ (offered.port 1).principal = false ∧ Serves testing 0 ∧
      testing.mode = .testing ∧ (testing.port 0).principal = true :=
  ⟨(serves _ _ _).1, by decide +kernel, rfl, (serves _ _ _).2, by decide +kernel,
    bench_serves (by decide) (by decide), rfl, by decide +kernel⟩

theorem test_witness_AttachStartsASession :
    Hears empty 2 ∧ empty.mode ≠ .fault ∧ (empty.port 2).session = .announced ∧
      1 ≤ (1#8).toNat ∧ (4#8).toNat ≤ 4 ∧ (0x7F#8).msb = false :=
  ⟨bench_hears 2, by decide, by decide +kernel, by decide, by decide, by decide⟩

theorem test_witness_AttachChoosesTheFirstUnusedEpoch :
    queued.chooseEpoch 0 = 2#16 ∧
      (queued.updPort 0 fun x => { x with epoch := 0 }).chooseEpoch 0 = 2#16 := by
  decide +kernel

theorem test_witness_SessionEndIsTakenWhole :
    Lawful offered ∧ Serves offered 1 ∧ offered.inReset = false ∧
      (offered.port 1).session = .up ∧ (offered.port 1).lineInBreak = false ∧
      (offered.port 1).inFlight ≠ [] :=
  ⟨offered_lawful, (serves _ _ _).2, rfl, by decide +kernel, by decide +kernel,
    by decide +kernel⟩

theorem test_witness_BreaksWithoutASession :
    (State.reset.port 2).lineInBreak = false ∧ (State.reset.port 2).session = .down ∧
      (empty.port 2).lineInBreak = false ∧ (empty.port 2).session = .announced ∧
      ((empty.updPort 2 fun x => { x with lineInBreak := true }).port 2).lineInBreak = true ∧
      empty.startUp = false ∧ State.reset.startUp = true := by
  decide +kernel

theorem test_witness_QueriesReadAndChangeNothing :
    Hears empty 4 ∧ Serves empty 1 ∧ (5#8).toNat = (5 : PortId).val ∧
      (31#8).toNat = (31 : MailboxId).val ∧ 5 < (6#8).toNat ∧ 31 < (32#8).toNat ∧
      (empty.mbx 31).state = .free ∧ (empty.mbx 3).state ≠ .free :=
  ⟨bench_hears 4, (serves _ _ _).2, by decide, by decide, by decide, by decide,
    by decide +kernel, by decide +kernel⟩

theorem test_witness_OpenMakesAMailboxOpen :
    Serves empty 1 ∧ (1 ≤ (32#8).toNat ∧ (32#8).toNat ≤ 32 ∧ 1 ≤ (10000#16).toNat ∧
      (10000#16).toNat ≤ 10000 ∧ 1 ≤ (15#8).toNat ∧ (15#8).toNat ≤ 15) ∧
      (32#8).toNat ≤ (32#8).toNat ∧ (empty.mbx 31).state = .free ∧
      (31#8).toNat = (31 : MailboxId).val ∧ (empty.mbx 0).state = .free ∧
      ∀ n : MailboxId, n < 0 → (empty.mbx n).state ≠ .free :=
  ⟨(serves _ _ _).2, by decide, by decide, by decide +kernel, by decide, by decide +kernel,
    fun _ h => absurd h (Nat.not_lt_zero _)⟩

theorem test_witness_HoldResumeAndReclaim :
    Serves queued 1 ∧ (queued.mbx 3).owner = 1 ∧ (queued.mbx 3).state = .opened ∧
      Serves dormant 0 ∧ (dormant.mbx 3).state = .dormant ∧ (dormant.port 0).principal = true ∧
      Serves dormant 1 ∧ (dormant.mbx 3).owner = 1 :=
  ⟨(serves _ _ _).2, by decide +kernel, by decide +kernel, (serves _ _ _).1, by decide +kernel,
    by decide +kernel, (serves _ _ _).2, by decide +kernel⟩

/-- Mailbox 3 CLOSING. -/
abbrev closing : State := offered.updMbx 3 fun x => { x with state := .closing }

theorem test_witness_MailboxCommandRefusals :
    Serves queued 0 ∧ Serves queued 1 ∧ Serves closing 1 ∧ Serves closing 0 ∧ Serves dormant 1 ∧
      Serves (queued.updMbx 3 fun x => { x with owner := 0 }) 1 ∧
      (32 ≤ (32#8).toNat ∧ (queued.mbx 31).state = .free ∧ (queued.mbx 3).owner ≠ 0 ∧
        ((queued.updMbx 3 fun x => { x with owner := 0 }).mbx 3).owner ≠ 1 ∧
        (queued.port 1).principal = false ∧ (closing.mbx 3).state = .closing ∧
        (closing.mbx 3).owner = 1 ∧ (closing.port 0).principal = true ∧
        (queued.mbx 3).state = .opened ∧ (dormant.mbx 3).state = .dormant ∧
        (dormant.mbx 3).owner = 1) :=
  ⟨(serves _ _ _).1, (serves _ _ _).2, serves_upd (serves _ _ _).2 _ _,
    serves_upd (serves _ _ _).1 _ _, (serves _ _ _).2, serves_upd (serves _ _ _).2 _ _,
    by decide +kernel⟩

theorem test_witness_OpenAndForceCloseRefusals :
    Serves empty 1 ∧ ¬(33#8).toNat ≤ 32 ∧ ¬(16#8).toNat ≤ 15 ∧ ¬(10001#16).toNat ≤ 10000 ∧
      ¬((32#8).toNat ≤ 31 ∨ 32#8 = 255#8) ∧ (3#8).toNat = (3 : MailboxId).val ∧
      (empty.mbx 3).state ≠ .free ∧
      Serves ({ empty with mailboxes := Table.replicate 32 (box false .opened) } : State) 1 ∧
      (∀ m, (({ empty with mailboxes := Table.replicate 32 (box false .opened) } : State).mbx
        m).state ≠ .free) ∧
      Serves closing 0 ∧ (closing.port 0).principal = true ∧ 31 < (32#8).toNat ∧
      (closing.mbx 31).state = .free ∧ (closing.mbx 3).state = .closing :=
  ⟨(serves _ _ _).2, by decide, by decide, by decide, by decide, by decide, by decide +kernel,
    ⟨rfl, (serves false .opened none).2.up, (serves false .opened none).2.slot, by decide⟩,
    fun m => by simp [State.mbx, box], serves_upd (serves _ _ _).1 _ _, by decide +kernel,
    by decide, by decide +kernel, by decide +kernel⟩

theorem test_witness_CloseEndsTheMailbox :
    Serves queued 1 ∧ Lawful queued ∧ (queued.mbx 3).owner = 1 ∧
      (queued.mbx 3).state = .opened ∧ (∀ e ∈ (queued.mbx 3).queue, queued.isQueued e = true) ∧
      Serves offered 1 ∧ Lawful offered ∧
      ¬(∀ e ∈ (offered.mbx 3).queue, offered.isQueued e = true) ∧
      Serves dormant 1 ∧ Lawful dormant ∧ (dormant.mbx 3).state = .dormant :=
  ⟨(serves _ _ _).2, queued_lawful, by decide +kernel, by decide +kernel, by decide +kernel,
    (serves _ _ _).2, offered_lawful, by decide +kernel, (serves _ _ _).2, dormant_lawful,
    by decide +kernel⟩

theorem test_witness_ForceCloseClosesAnyMailbox :
    Serves offered 0 ∧ Lawful offered ∧ (offered.port 0).principal = true ∧
      (3#8).toNat = (3 : MailboxId).val ∧ (offered.mbx 3).state = .opened ∧
      Serves dormant 0 ∧ Lawful dormant ∧ (dormant.mbx 3).state = .dormant :=
  ⟨(serves _ _ _).1, offered_lawful, by decide +kernel, by decide, by decide +kernel,
    (serves _ _ _).1, dormant_lawful, by decide +kernel⟩

theorem test_witness_DormancyExpiryFreesTheMailbox :
    dormant.inReset = false ∧ Lawful dormant ∧ (dormant.mbx 3).state = .dormant ∧
      (dormant.mbx 3).dormancyDeadline = some 6 :=
  ⟨rfl, dormant_lawful, by decide +kernel, by decide +kernel⟩

theorem test_witness_SendRangeCheck :
    (sendFields 39 3 1 0 60000 240 (List.replicate 240 0)).isSome = true ∧
      (sendFields 40 3 1 0 60000 0 []).isSome = false ∧
      (sendFields 39 4 1 0 60000 0 []).isSome = false ∧
      (sendFields 39 3 2 0 60000 0 []).isSome = false ∧
      (sendFields 39 3 1 0 60001 0 []).isSome = false ∧
      (sendFields 39 3 1 0 60000 1 []).isSome = false ∧
      sendFields 31 0 0 5 9 1 [7] = some ⟨.unicast 31, .bulk, false, 5, 9, [7]⟩ ∧
      sendFields 32 2 1 5 9 0 [] = some ⟨.fanOut 0, .high, true, 5, 9, []⟩ := by
  decide +kernel

/-- The small state with every descriptor LIVE, with every entry taken, and with no free buffer. -/
abbrev noDescriptor : State := { empty with descriptors := Table.replicate 128 (some msg) }
abbrev noEntry : State := { empty with entries := Table.replicate 256 (some (ent none)) }
abbrev noBuffer : State := { empty with buffers := Table.replicate 384 .retired }

/-- Mailbox 3 full: its depth limit is its queue length. -/
abbrev full : State := queued.updMbx 3 fun x => { x with depth := 1 }

/-- The fields of a SEND of one byte with tag 8. -/
abbrev sendTo (d : Destination) : SendFields := ⟨d, .high, true, 8, 0, [1]⟩

theorem test_witness_SendChecksInOrder :
    Serves testing 0 ∧ Serves empty 0 ∧ Serves queued 0 ∧ Serves full 0 ∧
      testing.mode = .testing ∧ sendFields 40 0 0 0 0 0 [] = none ∧
      sendFields 3 2 1 8 0 1 [1] = some (sendTo (.unicast 3)) ∧
      sendFields 32 2 1 8 0 1 [1] = some (sendTo (.fanOut 0)) ∧
      (queued.desc 0 = some msg ∧ msg.senderPort = 0 ∧
        msg.senderEpoch = (queued.port 0).epoch ∧ msg.tag = 7) ∧
      (∀ d x, queued.desc d = some x → x.senderPort = 0 →
        x.senderEpoch = (queued.port 0).epoch → x.tag ≠ 8#16) ∧
      ((queued.mbx 31).state = .free ∧ (closing.mbx 3).state = .closing ∧
        (full.mbx 3).state = .opened ∧ (full.mbx 3).queue.length = (full.mbx 3).depth) ∧
      ((full.grp 7).policy = none ∧ (full.grp 0).policy = some .strict ∧
        (full.grp 0).members = [3]) := by
  refine ⟨bench_serves (by decide) (by decide), (serves _ _ _).1, (serves _ _ _).1,
    serves_upd (serves _ _ _).1 _ _, rfl, by decide, by decide, by decide, by decide +kernel,
    fun d x h _ _ => ?_, by decide +kernel, by decide +kernel⟩
  rw [bench_desc] at h
  split at h
  · cases h
    decide
  · cases h

theorem test_witness_SendChecksInOrder_store :
    empty.targets (.unicast 3) = .ok ([3], 0) ∧ noDescriptor.targets (.unicast 3) = .ok ([3], 0) ∧
      noEntry.freeEntries < [(3 : MailboxId)].length ∧
      noBuffer.freeBuffers < ([1#8].length + 63) / 64 ∧
      (∀ d, noDescriptor.desc d ≠ none) ∧ noEntry.desc 0 = none ∧ noBuffer.desc 0 = none ∧
      1 ≤ noBuffer.freeEntries := by
  refine ⟨by rfl, by rfl, by decide +kernel, by decide +kernel, fun d => ?_, by decide +kernel,
    by decide +kernel, by decide +kernel⟩
  simp [State.desc]

theorem test_witness_SendToAMailboxIsAccepted :
    Serves empty 0 ∧ Lawful empty ∧ empty.mem.wf = true ∧ empty.mode = .running ∧
      sendFields 3 2 1 8 0 1 [1] = some (sendTo (.unicast 3)) ∧
      (∀ d x, empty.desc d = some x → x.senderPort = 0 →
        x.senderEpoch = (empty.port 0).epoch → x.tag ≠ 8#16) ∧
      ((empty.mbx 3).state = .opened ∧ (empty.mbx 3).queue.length < (empty.mbx 3).depth ∧
        1 ≤ empty.freeDescriptors ∧ 1 ≤ empty.freeEntries ∧
        ([1#8].length + 63) / 64 ≤ empty.freeBuffers) := by
  refine ⟨(serves _ _ _).1, empty_lawful, by decide, rfl, by decide, fun d x h => ?_,
    by decide +kernel⟩
  simp [bench_desc] at h

theorem test_witness_SendToAGroupIsAccepted :
    sendFields 32 2 1 8 0 1 [1] = some (sendTo (.fanOut 0)) ∧
      ([3] : List MailboxId) = (empty.grp 0).members.filter
        (fun m => decide ((empty.mbx m).queue.length ≠ (empty.mbx m).depth)) ∧
      (empty.grp 0).policy = some .strict ∧ [3] = (empty.grp 0).members ∧
      ((empty.updGrp 0 fun x => { x with policy := some .lenient }).grp 0).policy =
        some .lenient ∧
      1 ≤ empty.freeDescriptors ∧ 1 ≤ empty.freeEntries := by
  decide +kernel

theorem test_witness_CancelTakesBackAMessage :
    Serves offered 0 ∧ Lawful offered ∧ offered.tagsDistinct ∧ offered.desc 0 = some msg ∧
      msg.senderPort = 0 ∧ msg.senderEpoch = (offered.port 0).epoch ∧ msg.tag = 7#16 ∧
      Serves queued 0 ∧ Lawful queued ∧ queued.desc 0 = some msg := by
  refine ⟨(serves _ _ _).1, offered_lawful, fun i j x y hi hj _ _ _ => ?_, by decide +kernel, rfl,
    by decide +kernel, rfl, (serves _ _ _).1, queued_lawful, by decide +kernel⟩
  rw [bench_desc] at hi hj
  split at hi
  · next h =>
    split at hj
    · next h' => rw [h.1, h'.1]
    · cases hj
  · cases hi

theorem test_witness_AttachAndCancelRefusals :
    Serves empty 1 ∧ Hears empty 4 ∧ empty.mode ≠ .fault ∧ (empty.port 4).session = .announced ∧
      (0#8).toNat < 1 ∧ 4 < (5#8).toNat ∧ (0x80#8).msb = true ∧
      (∀ d x, empty.desc d = some x → x.senderPort = 1 →
        x.senderEpoch = (empty.port 1).epoch → x.tag ≠ 8#16) :=
  ⟨(serves _ _ _).2, bench_hears 4, by decide, by decide +kernel, by decide, by decide, by decide,
    fun d x h => by simp [bench_desc] at h⟩

theorem test_witness_LifetimeExpiryExpiresTheQueued :
    queued.inReset = false ∧ Lawful queued ∧ queued.desc 0 = some msg ∧ msg.deadline = some 9 ∧
      Lawful offered ∧ offered.desc 0 = some msg :=
  ⟨rfl, queued_lawful, by decide +kernel, rfl, offered_lawful, by decide +kernel⟩

theorem test_witness_SelectionOffersTheBestEntry :
    queued.inReset = false ∧ Lawful queued ∧
      (queued.entry 0 = some (ent none) ∧ (ent none).offer = none ∧ (queued.mbx 3).owner = 1 ∧
        (queued.mbx 3).state = .opened ∧ (queued.mbx 3).held = false) ∧
      ((queued.port 1).session = .up ∧ (queued.port 1).window = some 2 ∧
        (queued.port 1).inFlight.length < 2 ∧ (queued.port 1).prepared = none ∧
        (queued.port 1).tx = .idle) ∧
      (queued.port 4).session ≠ .up :=
  ⟨rfl, queued_lawful, by decide +kernel, by decide +kernel, by decide +kernel⟩

theorem test_witness_AcceptDelivers :
    offered.inReset = false ∧ Lawful offered ∧ (offered.port 1).session = .up ∧
      0 ∈ (offered.port 1).inFlight ∧ offered.entry 0 = some (ent (some 4)) ∧
      (ent (some 4)).offer = some ⟨5#8, .awaiting 4⟩ ∧
      offered.desc (ent (some 4)).descriptor = some msg :=
  ⟨rfl, offered_lawful, by decide +kernel, by decide +kernel, by decide +kernel,
    by decide +kernel, by decide +kernel⟩

theorem test_witness_DeclineEndsOrRequeues :
    Lawful offered ∧ offered.entry 0 = some (ent (some 4)) ∧
      (ent (some 4)).attempts < (offered.mbx 3).retryLimit :=
  ⟨offered_lawful, by decide +kernel, by decide +kernel⟩

theorem test_witness_AckExpiryCountsAnAttempt :
    Lawful offered ∧ offered.entry 0 = some (ent (some 4)) ∧
      (ent (some 4)).offer = some ⟨5#8, .awaiting 4⟩ :=
  ⟨offered_lawful, by decide +kernel, by decide +kernel⟩

theorem test_witness_StrayAnswersAreCounted :
    (State.reset.port 0).session = .down ∧ (empty.port 4).session = .announced ∧
      (empty.port 1).session = .up ∧ (empty.port 1).inFlight = [] ∧ 2 ≤ (2#8).toNat := by
  decide +kernel

theorem test_witness_SummaryIsTheLargestCount :
    (⟨1, 0, 2, 0, 2, 0⟩ : Tally).summary = .expired ∧
      (EntryOutcome.declined).code.toNat < (EntryOutcome.expired).code.toNat ∧
      1 ≤ (⟨0, 0, 0, 0, 0, 1⟩ : Tally).sum ∧
      (⟨0, 0, 0, 0, 0, 1⟩ : Tally).count .purged = (⟨0, 0, 0, 0, 0, 1⟩ : Tally).sum := by
  decide +kernel

theorem test_witness_GroupDefineSetsThePolicy :
    Serves empty 0 ∧ (empty.port 0).principal = true ∧ (32#8).toNat = 32 + (0 : GroupId).val ∧
      (39#8).toNat = 32 + (7 : GroupId).val ∧ (empty.grp 0).policy ≠ none ∧ (empty.grp 7).policy = none :=
  ⟨(serves _ _ _).1, by decide +kernel, by decide, by decide, by decide +kernel,
    by decide +kernel⟩

theorem test_witness_GroupAddRemoveDelete :
    Serves (empty.updMbx 31 fun _ => box false .opened) 0 ∧ (empty.port 0).principal = true ∧
      (empty.grp 0).policy ≠ none ∧ 3 ∈ (empty.grp 0).members ∧
      31 ∉ (empty.grp 0).members ∧ (empty.grp 0).members.length < 8 ∧
      ((empty.updMbx 31 fun _ => box false .opened).mbx 31).state = .opened ∧
      empty.groupsLawful :=
  ⟨serves_upd (serves _ _ _).1 _ _, by decide +kernel, by decide +kernel, by decide +kernel,
    by decide +kernel, by decide +kernel, by decide +kernel, empty_lawful.groups⟩

theorem test_witness_GroupCommandRefusals :
    ((31#8).toNat < 32 ∧ 39 < (40#8).toNat ∧ 1 < (2#8).toNat ∧ 31 < (32#8).toNat) ∧
      Serves empty 0 ∧ (empty.port 0).principal = true ∧ (empty.grp 7).policy = none ∧
      (empty.grp 0).policy ≠ none ∧ 4 ∉ (empty.grp 0).members ∧ (empty.mbx 4).state = .free ∧
      Serves closing 0 ∧ (closing.mbx 3).state = .closing ∧ (empty.mbx 3).state = .opened ∧
      3 ∈ (empty.grp 0).members ∧
      ((empty.updGrp 0 fun x =>
        { x with members := List.replicate 8 4 }).grp 0).members.length = 8 :=
  ⟨by decide, (serves _ _ _).1, by decide +kernel, by decide +kernel, by decide +kernel,
    by decide +kernel, by decide +kernel, serves_upd (serves _ _ _).1 _ _, by decide +kernel,
    by decide +kernel, by decide +kernel, by decide +kernel⟩

theorem test_witness_RaiseQueuesOneNotice :
    (empty.port 4).session ≠ .up ∧ (empty.port 1).session = .up ∧ (4 : PortId) ≠ 1 := by
  decide +kernel

theorem test_witness_EventCommandsActOnTheUnit :
    Serves empty 1 ∧ (0x7F#8).msb = false ∧ (0x80#8).msb = true :=
  ⟨(serves _ _ _).2, by decide, by decide⟩

theorem test_witness_ConfigureSetsBothSettings :
    Serves empty 0 ∧ (empty.port 0).principal = true ∧ (384#16).toNat ≤ 384 ∧
      (3600#16).toNat ≤ 3600 ∧ 384 < (385#16).toNat ∧ 3600 < (3601#16).toNat ∧
      Serves empty 1 ∧ (empty.port 1).principal = false :=
  ⟨(serves _ _ _).1, by decide +kernel, by decide, by decide, by decide, by decide,
    (serves _ _ _).2, by decide +kernel⟩

theorem test_witness_HostFramesRoundTrip :
    (Instr.attach 2 1 2 0).wellFormed = true ∧
      encodeFrame (.attach 2 1 2 0) = some ⟨2, Kind.attach, 1, [2, 0]⟩ := by
  decide

theorem test_witness_FramesAndCharactersOnTheLine :
    empty.inReset = false ∧ (empty.port 1).line = .idle ∧ (∀ f, (empty.port 1).tx ≠ .sending f) ∧
      (empty.port 1).txd.rest = [] ∧ (noticing.port 1).txd = ⟨0, []⟩ ∧
      (noticing.port 1).tx = .sending (.event 4) ∧
      (Frame.event 5).wire[6]? = some ((crc [3, 0x84, 0, 5]).extractLsb' 0 8) :=
  ⟨rfl, by decide +kernel, fun f => by
    rw [show (empty.port 1).tx = .idle by decide +kernel]; simp, by decide +kernel,
    by decide +kernel, by decide +kernel, by decide +kernel⟩

theorem test_witness_FrameBytesReachTheMeaning :
    empty.inReset = false ∧ (empty.port 1).session ≠ .down ∧ (empty.port 1).receiver = .hunt ∧
      (List.replicate 251 0#8).length ≤ 251 :=
  ⟨rfl, by decide +kernel, by decide +kernel, by rw [List.length_replicate]⟩

theorem test_witness_ByteTakenFollowsTheReceiverTable :
    (State.reset.port 1).session = .down ∧ (empty.port 1).session ≠ .down ∧
      (empty.port 1).receiver = .hunt ∧ 0xC8#8 ≠ 0xC9#8 ∧ 2 ≤ (2#8).toNat ∧
      (253#8).toNat ≤ 253 ∧ (1#8).toNat < 2 ∧ 253 < (254#8).toNat ∧
      (∀ r, ((empty.updPort 1 fun x => { x with receiver := r }).port 1).receiver = r) ∧
      crc [2, 0x1B, 5] ≠ half 0 0 :=
  ⟨by decide +kernel, by decide +kernel, by decide +kernel, by decide, by decide, by decide,
    by decide, by decide, fun r => by simp, by decide +kernel⟩

theorem test_witness_UnusableFrames :
    empty.inReset = false ∧ (empty.port 1).session ≠ .down ∧ (empty.port 1).receiver = .hunt ∧
      ((empty.updPort 1 fun x => { x with receiver := .length }).port 1).receiver ≠ .hunt ∧
      (empty.port 1).replies.length < 4 ∧
      4 ≤ ((empty.updPort 1 fun x =>
        { x with replies := List.replicate 4 ⟨0, 0, .sending⟩ }).port 1).replies.length := by
  decide +kernel

theorem test_witness_ArbiterBeginsTheFirstWaiting :
    (Port.powerOn false).tx = .idle ∧ (Port.powerOn false).helloPending = false ∧
      (∀ x : Port, (empty.updPort 1 fun _ => x).port 1 = x) ∧
      ([⟨1, 2, .deferred .retest⟩, ⟨3, 4, .ready .ok .none⟩] : List Reply) =
        [⟨1, 2, .deferred .retest⟩] ++ ⟨3, 4, .ready .ok .none⟩ :: [] ∧
      (∀ y ∈ ([⟨1, 2, .deferred .retest⟩] : List Reply), y.isReady = false) :=
  ⟨by decide, by decide, fun x => by simp, rfl, by decide⟩

theorem test_witness_LastByteEndsTheFrame :
    (noticing.port 1).tx = .sending (.event 4) ∧ (noticing.port 1).txd = ⟨0, []⟩ ∧
      (∃ b, (Frame.event 4).wire[6]? = some b) ∧
      (∀ x : Port, (empty.updPort 1 fun _ => x).port 1 = x) ∧
      (Frame.event 1).kind ≠ Kind.reply ∧ (Frame.event 1).kind ≠ Kind.offer ∧
      offered.entry 0 = some (ent (some 4)) ∧
      (ent (some 4)).offer = some ⟨5#8, .awaiting 4⟩ ∧
      ({ ent (some 4) with offer := some ⟨5#8, .sending⟩ } : Entry).offer =
        some ⟨5#8, .sending⟩ :=
  ⟨by decide +kernel, by decide +kernel, ⟨_, rfl⟩, fun x => by simp, by decide, by decide,
    by decide +kernel, rfl, rfl⟩

theorem test_witness_CompletedReplyStandsLast :
    ([⟨1, 2, .ready .ok .none⟩, ⟨3, 4, .deferred .retest⟩] : List Reply) =
        [⟨1, 2, .ready .ok .none⟩] ++ ⟨3, 4, .deferred .retest⟩ :: [] ∧
      ∀ y ∈ ([⟨1, 2, .ready .ok .none⟩] : List Reply) ++ [], y.state ≠ .deferred .retest :=
  ⟨rfl, by decide⟩

/-- The small state with a command in front. -/
abbrev busy (s : State) (c : Instr) : State := { s with pending := [c] }

/-- The laws do not read the queue of commands. -/
theorem lawful_busy {s : State} (h : Lawful s) (c : Instr) : Lawful (busy s c) :=
  ⟨h.ports, ⟨h.mode.store, h.mode.fault, h.mode.startUp, h.mode.heard⟩, h.groups,
    ⟨h.store.entry, h.store.settings, h.store.attempts, h.store.queue, h.store.bounded, h.store.sorted, h.store.references,
      h.store.tally, h.store.distinct, h.store.flight, h.store.offered, h.store.once,
      h.store.prepared, h.store.phase, h.store.ids, h.store.closing, h.store.dormant,
      h.store.owner⟩⟩

/-- The buffer law holds with a message in the store. -/
theorem queued_buffers : BufferLaw queued where
  held i d h := by
    rw [bench_desc] at h
    split at h
    · cases h
      exact ⟨by decide, by decide, by decide +kernel⟩
    · cases h
  apart i j x y b hi hj _ _ := by
    rw [bench_desc] at hi hj
    split at hi
    · next h =>
      split at hj
      · next h' => rw [h.1, h'.1]
      · cases hj
    · cases hi
  arming _ := by decide +kernel
  used b h := by
    refine ⟨0, msg, by decide +kernel, ?_⟩
    by_cases hb : b = 0
    · simp [hb, msg]
    · rw [bench_buffers, if_neg (by simp [hb])] at h
      cases h

theorem test_witness_invariants :
    Lawful (busy queued (.selection 4)) ∧ (busy queued (.selection 4)).groupsLawful ∧
      BufferLaw queued ∧ ModeLaw queued ∧ queued.tagsDistinct ∧ queued.mem.wf = true ∧
      step (busy queued (.frameDiscard 0)) = exec (.frameDiscard 0) queued ∧
      step queued = .next queued.tick := by
  refine ⟨lawful_busy queued_lawful _, queued_lawful.groups, queued_buffers, queued_lawful.mode,
    fun i j x y hi hj _ _ _ => ?_, rfl, rfl, rfl⟩
  rw [bench_desc] at hi hj
  split at hi
  · next h =>
    split at hj
    · next h' => rw [h.1, h'.1]
    · cases hj
  · cases hi

theorem test_witness_FaultAndPrincipalAreKept :
    (∀ a b, Instr.breakEnd 1 ≠ .powerOn a b) ∧ Instr.breakEnd 1 ≠ .resetAsserted ∧
      ({ empty with mode := .fault } : State).mode = .fault ∧
      ∃ t, exec (.breakEnd 1) { empty with mode := .fault } = .next t :=
  ⟨fun _ _ => by simp, by decide, rfl, ⟨_, rfl⟩⟩

end Sys2Proof.Tests
end

section
/-! SUPPORT. The meaning of each row of the table, said once: `exec` unfolded for it. -/

namespace Sys2Proof.Machine

theorem exec_attach (p : PortId) (seq window enables : Byte) (s : State) :
    exec (.attach p seq window enables) s =
      event (fun s => s.takeCommand p Kind.attach seq fun t => t.attachOwn p window enables) s := rfl
theorem exec_detach (p : PortId) (seq : Byte) (s : State) :
    exec (.detach p seq) s =
      event (fun s => s.takeCommand p Kind.detach seq fun t => t.detachOwn p) s := rfl
theorem exec_openMailbox (p : PortId) (seq id depth : Byte) (ackWindow : Half)
    (retry watermark : Byte) (s : State) :
    exec (.openMailbox p seq id depth ackWindow retry watermark) s =
      event (fun s => s.takeCommand p Kind.openMailbox seq fun t => t.openOwn p id depth ackWindow
        retry watermark) s := rfl
theorem exec_close (p : PortId) (seq id : Byte) (s : State) :
    exec (.close p seq id) s =
      event (fun s => s.takeCommand p Kind.close seq fun t => t.closeOwn p seq id) s := rfl
theorem exec_hold (p : PortId) (seq id : Byte) (s : State) :
    exec (.hold p seq id) s =
      event (fun s => s.takeCommand p Kind.hold seq fun t => t.setHeldOwn p id true) s := rfl
theorem exec_resume (p : PortId) (seq id : Byte) (s : State) :
    exec (.resume p seq id) s =
      event (fun s => s.takeCommand p Kind.resume seq fun t => t.setHeldOwn p id false) s := rfl
theorem exec_reclaim (p : PortId) (seq id : Byte) (s : State) :
    exec (.reclaim p seq id) s =
      event (fun s => s.takeCommand p Kind.reclaim seq fun t => t.reclaimOwn p id) s := rfl
theorem exec_queryMailbox (p : PortId) (seq id : Byte) (s : State) :
    exec (.queryMailbox p seq id) s =
      event (fun s => s.takeCommand p Kind.queryMailbox seq fun t => t.queryMailboxOwn id) s := rfl
theorem exec_send (p : PortId) (seq dest cls report : Byte) (tag lifetime : Half) (declared : Byte)
    (payload : List Byte) (s : State) :
    exec (.send p seq dest cls report tag lifetime declared payload) s =
      event (fun s =>
        if payload.length ≤ Config.maxPayload then
          s.takeCommand p Kind.send seq fun t =>
            t.sendOwn p (sendFields dest cls report tag lifetime declared payload)
        else s.takeMalformed p Kind.send seq) s := rfl
theorem exec_cancel (p : PortId) (seq : Byte) (tag : Half) (s : State) :
    exec (.cancel p seq tag) s =
      event (fun s => s.takeCommand p Kind.cancel seq fun t => t.cancelOwn p tag) s := rfl
theorem exec_setEvents (p : PortId) (seq enables : Byte) (s : State) :
    exec (.setEvents p seq enables) s =
      event (fun s => s.takeCommand p Kind.setEvents seq fun t => t.setEventsOwn p enables) s := rfl
theorem exec_readEvents (p : PortId) (seq : Byte) (s : State) :
    exec (.readEvents p seq) s =
      event (fun s => s.takeCommand p Kind.readEvents seq fun t => t.readEventsOwn p) s := rfl
theorem exec_queryPool (p : PortId) (seq : Byte) (s : State) :
    exec (.queryPool p seq) s =
      event (fun s => s.takeCommand p Kind.queryPool seq fun t => t.queryPoolOwn) s := rfl
theorem exec_queryPort (p : PortId) (seq which : Byte) (s : State) :
    exec (.queryPort p seq which) s =
      event (fun s => s.takeCommand p Kind.queryPort seq fun t => t.queryPortOwn which) s := rfl
theorem exec_configure (p : PortId) (seq : Byte) (lowMark dormancy : Half) (s : State) :
    exec (.configure p seq lowMark dormancy) s =
      event (fun s => s.takeCommand p Kind.configure seq (ofPrincipal p fun t => t.configureOwn
        lowMark dormancy)) s := rfl
theorem exec_groupDefine (p : PortId) (seq gid policy : Byte) (s : State) :
    exec (.groupDefine p seq gid policy) s =
      event (fun s => s.takeCommand p Kind.groupDefine seq (ofPrincipal p fun t => t.groupDefineOwn
        gid policy)) s := rfl
theorem exec_groupAdd (p : PortId) (seq gid id : Byte) (s : State) :
    exec (.groupAdd p seq gid id) s =
      event (fun s => s.takeCommand p Kind.groupAdd seq (ofPrincipal p fun t => t.groupAddOwn gid
        id)) s := rfl
theorem exec_groupRemove (p : PortId) (seq gid id : Byte) (s : State) :
    exec (.groupRemove p seq gid id) s =
      event (fun s => s.takeCommand p Kind.groupRemove seq (ofPrincipal p fun t => t.groupRemoveOwn
        gid id)) s := rfl
theorem exec_groupDelete (p : PortId) (seq gid : Byte) (s : State) :
    exec (.groupDelete p seq gid) s =
      event (fun s => s.takeCommand p Kind.groupDelete seq (ofPrincipal p fun t => t.groupDeleteOwn
        gid)) s := rfl
theorem exec_forceClose (p : PortId) (seq id : Byte) (s : State) :
    exec (.forceClose p seq id) s =
      event (fun s => s.takeCommand p Kind.forceClose seq (ofPrincipal p fun t => t.forceCloseOwn p
        seq id)) s := rfl
theorem exec_clear (p : PortId) (seq : Byte) (s : State) :
    exec (.clear p seq) s =
      event (fun s => s.takeCommand p Kind.clear seq (ofPrincipal p fun t => t.clearOwn)) s := rfl
theorem exec_retest (p : PortId) (seq : Byte) (s : State) :
    exec (.retest p seq) s =
      event (fun s => s.takeCommand p Kind.retest seq (ofPrincipal p fun t => t.retestOwn)) s := rfl
theorem exec_accept (p : PortId) (offer : Byte) (s : State) :
    exec (.accept p offer) s =
      event (fun s => s.accept p offer) s := rfl
theorem exec_decline (p : PortId) (offer requeue : Byte) (s : State) :
    exec (.decline p offer requeue) s =
      event (fun s => s.decline p offer requeue) s := rfl
theorem exec_selection (p : PortId) (s : State) :
    exec (.selection p) s =
      event (fun s => s.select p) s := rfl
theorem exec_ackDeadlineExpiry (p : PortId) (offer : Byte) (s : State) :
    exec (.ackDeadlineExpiry p offer) s =
      event (fun s => s.ackExpires p offer) s := rfl
theorem exec_lifetimeExpiry (d : DescId) (s : State) :
    exec (.lifetimeExpiry d) s =
      event (fun s => s.lifetimeExpires d) s := rfl
theorem exec_dormancyExpiry (m : MailboxId) (s : State) :
    exec (.dormancyExpiry m) s =
      event (fun s => s.dormancyExpires m) s := rfl
theorem exec_breakStart (p : PortId) (s : State) :
    exec (.breakStart p) s =
      event (fun s => s.breakStarts p) s := rfl
theorem exec_breakEnd (p : PortId) (s : State) :
    exec (.breakEnd p) s =
      event (fun s => s.breakEnds p) s := rfl
theorem exec_frameDiscard (p : PortId) (s : State) :
    exec (.frameDiscard p) s =
      event (fun s => s.discardFrame p) s := rfl
theorem exec_gapExpiry (p : PortId) (s : State) :
    exec (.gapExpiry p) s =
      event (fun s => s.gapExpired p) s := rfl
theorem exec_malformed (p : PortId) (kind seq : Byte) (s : State) :
    exec (.malformed p kind seq) s =
      event (fun s => s.takeMalformed p kind seq) s := rfl
theorem exec_arbiterBeginFrame (p : PortId) (s : State) :
    exec (.arbiterBeginFrame p) s =
      event (fun s => s.arbitrate p) s := rfl
theorem exec_frameLastByteSent (p : PortId) (s : State) :
    exec (.frameLastByteSent p) s =
      event (fun s => s.lastByteSent p) s := rfl
theorem exec_stoppedFrameIdleEnd (p : PortId) (s : State) :
    exec (.stoppedFrameIdleEnd p) s =
      event (fun s => s.stoppedIdleEnded p) s := rfl
theorem exec_powerOn (psel : BitVec 3) (rate : BitVec 2) (s : State) :
    exec (.powerOn psel rate) s =
      .next (s.powerOn psel rate) := rfl
theorem exec_resetAsserted (s : State) :
    exec .resetAsserted s =
      .next s.enterReset := rfl
theorem exec_testEnd (failed : List BufferId) (s : State) :
    exec (.testEnd failed) s =
      event (fun s => s.testEnds failed) s := rfl

end Sys2Proof.Machine
end

section
namespace Sys2Proof.Machine

variable (s : State)

/-! ### Registers -/

@[simp] theorem State.registers_updPort (p : PortId) (f : Port → Port) :
    (s.updPort p f).registers = s.registers := rfl
@[simp] theorem State.registers_allPorts (f : Port → Port) :
    (s.allPorts f).registers = s.registers := rfl
@[simp] theorem State.registers_updMbx (m : MailboxId) (f : Mailbox → Mailbox) :
    (s.updMbx m f).registers = s.registers := rfl
@[simp] theorem State.registers_setDesc (i : DescId) (x : Option Descriptor) :
    (s.setDesc i x).registers = s.registers := rfl
@[simp] theorem State.registers_updDesc (i : DescId) (f : Descriptor → Descriptor) :
    (s.updDesc i f).registers = s.registers := rfl
@[simp] theorem State.registers_setEntry (e : EntryId) (x : Option Entry) :
    (s.setEntry e x).registers = s.registers := rfl
@[simp] theorem State.registers_moveBuffers (bs : List BufferId) (x : BufferSet) :
    (s.moveBuffers bs x).registers = s.registers := rfl
@[simp] theorem State.registers_leaveGroups (m : MailboxId) :
    (s.leaveGroups m).registers = s.registers := rfl
@[simp] theorem State.registers_raise (e : Event) (p : PortId) :
    (s.raise e p).registers = s.registers := rfl
@[simp] theorem State.registers_raiseAll (e : Event) :
    (s.raiseAll e).registers = s.registers := rfl
@[simp] theorem State.registers_forgetCloseReplies (p : PortId) :
    (s.forgetCloseReplies p).registers = s.registers := rfl

/-- States with the same registers agree in each of them. -/
theorem State.registers_fields {s t : State} (h : t.registers = s.registers) :
    t.now = s.now ∧ t.inReset = s.inReset ∧ t.mode = s.mode ∧ t.goodCount = s.goodCount ∧
      t.startUp = s.startUp ∧ t.rate = s.rate ∧ t.lowMark = s.lowMark ∧
      t.dormancyLimit = s.dormancyLimit ∧ t.arrival = s.arrival ∧ t.pending = s.pending := by
  simpa only [State.registers, State.mk.injEq, true_and, and_true] using h

theorem State.lowMark_of_registers {s t : State} (h : t.registers = s.registers) :
    t.lowMark = s.lowMark := (State.registers_fields h).2.2.2.2.2.2.1

/-! ### A raise at one port record -/

section
variable (x : Port) (e : Event)
@[simp] theorem Port.raise_session : (x.raise e).session = x.session := by rw [Port.raise_eq]
@[simp] theorem Port.raise_lineInBreak : (x.raise e).lineInBreak = x.lineInBreak := by
  rw [Port.raise_eq]
@[simp] theorem Port.raise_helloPending : (x.raise e).helloPending = x.helloPending := by
  rw [Port.raise_eq]
@[simp] theorem Port.raise_epoch : (x.raise e).epoch = x.epoch := by rw [Port.raise_eq]
@[simp] theorem Port.raise_principal : (x.raise e).principal = x.principal := by rw [Port.raise_eq]
@[simp] theorem Port.raise_window : (x.raise e).window = x.window := by rw [Port.raise_eq]
@[simp] theorem Port.raise_inFlight : (x.raise e).inFlight = x.inFlight := by rw [Port.raise_eq]
@[simp] theorem Port.raise_prepared : (x.raise e).prepared = x.prepared := by rw [Port.raise_eq]
@[simp] theorem Port.raise_replies : (x.raise e).replies = x.replies := by rw [Port.raise_eq]
@[simp] theorem Port.raise_reports : (x.raise e).reports = x.reports := by rw [Port.raise_eq]
@[simp] theorem Port.raise_enables : (x.raise e).enables = x.enables := by rw [Port.raise_eq]
@[simp] theorem Port.raise_lostReports : (x.raise e).lostReports = x.lostReports := by
  rw [Port.raise_eq]
@[simp] theorem Port.raise_receiver : (x.raise e).receiver = x.receiver := by rw [Port.raise_eq]
@[simp] theorem Port.raise_tx : (x.raise e).tx = x.tx := by rw [Port.raise_eq]
@[simp] theorem Port.raise_txd : (x.raise e).txd = x.txd := by rw [Port.raise_eq]
end

/-! ### Told -/

/-- The same act under another name of what was due. -/
theorem Told.congr {x y : Port} {due due' : Event → Prop} (h : Told x y due)
    (hd : ∀ ev, due ev ↔ due' ev) : Told x y due' := by
  have : due = due' := funext fun ev => propext (hd ev)
  exact this ▸ h

/-- An act that leaves a record alone, under any name of nothing. -/
theorem Told.none (x : Port) {due : Event → Prop} (h : ∀ ev, ¬ due ev) : Told x x due :=
  (Told.refl x).congr fun ev => iff_of_false id (h ev)

/-- What a told record keeps, field by field. -/
theorem Told.fields {x y : Port} {due : Event → Prop} (h : Told x y due) :
    y.session = x.session ∧ y.epoch = x.epoch ∧ y.window = x.window ∧ y.inFlight = x.inFlight ∧
      y.prepared = x.prepared ∧ y.principal = x.principal ∧ y.tx = x.tx := by
  have := h.rest
  simp only [Port.aside, Port.mk.injEq] at this
  tauto

theorem Told.session {x y : Port} {due : Event → Prop} (h : Told x y due) :
    y.session = x.session := h.fields.1
theorem Told.epoch {x y : Port} {due : Event → Prop} (h : Told x y due) :
    y.epoch = x.epoch := h.fields.2.1
theorem Told.inFlight {x y : Port} {due : Event → Prop} (h : Told x y due) :
    y.inFlight = x.inFlight := h.fields.2.2.2.1
theorem Told.prepared {x y : Port} {due : Event → Prop} (h : Told x y due) :
    y.prepared = x.prepared := h.fields.2.2.2.2.1

/-- Fields put aside by `Port.aside` have no part in what is told, as long as the event unit is the same. -/
theorem Told.of_aside {x y x' y' : Port} {due : Event → Prop} (h : Told x y due)
    (hx : x'.aside = x.aside) (hy : y'.aside = y.aside)
    (hfx : x'.flags = x.flags) (hfy : y'.flags = y.flags)
    (hox : x'.noticeOutstanding = x.noticeOutstanding)
    (hoy : y'.noticeOutstanding = y.noticeOutstanding)
    (hqx : x'.noticeQueued = x.noticeQueued) (hqy : y'.noticeQueued = y.noticeQueued) :
    Told x' y' due := by
  have hs : x'.session = x.session ∧ x'.enables = x.enables := by
    simp only [Port.aside, Port.mk.injEq] at hx
    tauto
  obtain ⟨hs, he⟩ := hs
  exact ⟨by rw [hx, hy, h.rest], by rw [hfx, hfy, hs]; exact h.flags,
    by rw [hox, hoy, hqx, hqy]; exact h.closed, by rw [hox, hoy, hs, hfy, he]; exact h.opened,
    by rw [hox, hoy, hqx, hqy]; exact h.queued⟩

/-! ### Level arming (R26) -/

/-- An evaluation of level arming: LEVEL is raised when it disarms. -/
theorem State.evalLevel_due {m : MailboxId}
    (h : (s.mbx m).levelDue (s.mbx m).queue.length) :
    s.evalLevel m = (s.updMbx m fun y => { y with armed := false }).raise .level (s.mbx m).owner := by
  obtain ⟨ha, hw, hl⟩ := h
  simp [State.evalLevel, ha, hw, hl]

/-- Without a raise the evaluation sets the arming alone. -/
theorem State.evalLevel_notDue {m : MailboxId}
    (h : ¬ (s.mbx m).levelDue (s.mbx m).queue.length) :
    s.evalLevel m =
      s.updMbx m fun y => { y with armed := (s.mbx m).armedAt (s.mbx m).queue.length } := by
  have same : ∀ b, (s.mbx m).armed = b →
      s = s.updMbx m fun y => { y with armed := b } := fun b hb => by
    show s = { s with mailboxes := s.mailboxes.modify m _ }
    rw [Table.modify_eq_self]
    rw [← hb]
    rfl
  simp only [Mailbox.levelDue, not_and, not_le] at h
  unfold State.evalLevel Mailbox.armedAt
  cases ha : (s.mbx m).armed with
  | true =>
    by_cases hw : (s.mbx m).watermark = 0
    · simpa [ha, hw] using same _ ha
    · simpa [ha, hw, Nat.not_le.2 (h ha hw), h ha hw] using same _ ha
  | false =>
    by_cases hl : (s.mbx m).queue.length < (s.mbx m).watermark
    · have hw : (s.mbx m).watermark ≠ 0 := by omega
      simp [ha, hl, hw]
    · by_cases hw : (s.mbx m).watermark = 0
      · simpa [ha, hl, hw] using same _ ha
      · simpa [ha, hl, hw] using same _ ha

/-- Disarming is what the arming comes to when LEVEL is due. -/
theorem Mailbox.armedAt_due {x : Mailbox} {n : Nat} (h : x.levelDue n) : x.armedAt n = false := by
  obtain ⟨-, hw, hl⟩ := h
  simp [Mailbox.armedAt, hw, hl]

/-- The mailboxes after an evaluation of level arming. -/
theorem State.mbx_evalLevel (m n : MailboxId) :
    (s.evalLevel m).mbx n =
      if n = m then { s.mbx n with armed := (s.mbx n).armedAt (s.mbx n).queue.length }
      else s.mbx n := by
  by_cases h : (s.mbx m).levelDue (s.mbx m).queue.length
  · rw [State.evalLevel_due s h, State.mbx_raise, State.mbx_updMbx]
    split
    · next hn => subst hn; rw [Mailbox.armedAt_due h]
    · rfl
  · rw [State.evalLevel_notDue s h, State.mbx_updMbx]
    split
    · next hn => subst hn; rfl
    · rfl

/-- The ports after an evaluation of level arming. -/
theorem State.told_evalLevel (m : MailboxId) (p : PortId) :
    Told (s.port p) ((s.evalLevel m).port p) fun ev =>
      ev = .level ∧ p = (s.mbx m).owner ∧ (s.mbx m).levelDue (s.mbx m).queue.length := by
  by_cases h : (s.mbx m).levelDue (s.mbx m).queue.length
  · rw [State.evalLevel_due s h]
    by_cases hp : p = (s.mbx m).owner
    · subst hp
      rw [State.port_raise_self]
      exact (told_raise _ _).congr fun ev => by simp [h]
    · rw [State.port_raise_ne _ _ hp]
      exact Told.none _ fun ev => by simp [hp]
  · rw [State.evalLevel_notDue s h]
    exact Told.none _ fun ev => by simp [h]

/-- An evaluation of level arming leaves a port as it is, or raises LEVEL there. -/
theorem State.port_evalLevel_cases (m : MailboxId) (p : PortId) :
    (s.evalLevel m).port p = s.port p ∨ (s.evalLevel m).port p = (s.port p).raise .level := by
  rcases State.evalLevel_cases s m with h | h | h <;> rw [h]
  · exact .inl rfl
  · by_cases hp : p = (s.mbx m).owner
    · subst hp; exact .inr (State.port_raise_self _ _ _)
    · exact .inl (State.port_raise_ne _ _ hp)
  · exact .inl rfl

section
variable (m : MailboxId)
@[simp] theorem State.evalLevel_descriptors : (s.evalLevel m).descriptors = s.descriptors := by
  rcases State.evalLevel_cases s m with h | h | h <;> rw [h] <;> rfl
@[simp] theorem State.evalLevel_entries : (s.evalLevel m).entries = s.entries := by
  rcases State.evalLevel_cases s m with h | h | h <;> rw [h] <;> rfl
@[simp] theorem State.evalLevel_buffers : (s.evalLevel m).buffers = s.buffers := by
  rcases State.evalLevel_cases s m with h | h | h <;> rw [h] <;> rfl
@[simp] theorem State.evalLevel_mem : (s.evalLevel m).mem = s.mem := by
  rcases State.evalLevel_cases s m with h | h | h <;> rw [h] <;> rfl
@[simp] theorem State.evalLevel_groups : (s.evalLevel m).groups = s.groups := by
  rcases State.evalLevel_cases s m with h | h | h <;> rw [h] <;> rfl
@[simp] theorem State.evalLevel_poolArmed : (s.evalLevel m).poolArmed = s.poolArmed := by
  rcases State.evalLevel_cases s m with h | h | h <;> rw [h] <;> rfl
@[simp] theorem State.registers_evalLevel : (s.evalLevel m).registers = s.registers := by
  rcases State.evalLevel_cases s m with h | h | h <;> rw [h] <;> rfl
@[simp] theorem State.desc_evalLevel (i : DescId) : (s.evalLevel m).desc i = s.desc i :=
  congrArg (·.get i) (s.evalLevel_descriptors m)
@[simp] theorem State.entry_evalLevel (e : EntryId) : (s.evalLevel m).entry e = s.entry e :=
  congrArg (·.get e) (s.evalLevel_entries m)
end

/-! ### Pool-low arming (R19) -/

/-- An evaluation of pool-low arming sets the arming and leaves or raises POOL_LOW everywhere. -/
theorem State.evalPool_cases :
    s.evalPool = ({ s with poolArmed := false } : State).raiseAll .poolLow ∨
    s.evalPool = { s with poolArmed := decide (s.lowMark ≤ s.freeBuffers) } := by
  rw [State.evalPool_eq]
  split
  · exact .inl rfl
  · exact .inr rfl

/-- The ports after an evaluation of pool-low arming. -/
theorem State.told_evalPool (p : PortId) :
    Told (s.port p) (s.evalPool.port p) fun ev =>
      ev = .poolLow ∧ s.poolArmed = true ∧ s.freeBuffers < s.lowMark := by
  rw [State.evalPool_eq]
  split
  · next h =>
    rw [State.port_raiseAll]
    exact (told_raise _ _).congr fun ev => by simp [h]
  · next h => exact Told.none _ fun ev hev => h hev.2

/-- An evaluation of pool-low arming leaves a port as it is, or raises POOL_LOW there. -/
theorem State.port_evalPool_cases (p : PortId) :
    s.evalPool.port p = s.port p ∨ s.evalPool.port p = (s.port p).raise .poolLow := by
  rcases s.evalPool_cases with h | h <;> rw [h]
  · exact .inr (State.port_raiseAll _ _ _)
  · exact .inl rfl

@[simp] theorem State.evalPool_descriptors : s.evalPool.descriptors = s.descriptors := by
  rcases s.evalPool_cases with h | h <;> rw [h]; rfl
@[simp] theorem State.evalPool_entries : s.evalPool.entries = s.entries := by
  rcases s.evalPool_cases with h | h <;> rw [h]; rfl
@[simp] theorem State.evalPool_buffers : s.evalPool.buffers = s.buffers := by
  rcases s.evalPool_cases with h | h <;> rw [h]; rfl
@[simp] theorem State.evalPool_mem : s.evalPool.mem = s.mem := by
  rcases s.evalPool_cases with h | h <;> rw [h]; rfl
@[simp] theorem State.evalPool_mailboxes : s.evalPool.mailboxes = s.mailboxes := by
  rcases s.evalPool_cases with h | h <;> rw [h]; rfl
@[simp] theorem State.evalPool_groups : s.evalPool.groups = s.groups := by
  rcases s.evalPool_cases with h | h <;> rw [h]; rfl
@[simp] theorem State.registers_evalPool : s.evalPool.registers = s.registers := by
  rcases s.evalPool_cases with h | h <;> rw [h] <;> rfl
@[simp] theorem State.desc_evalPool (i : DescId) : s.evalPool.desc i = s.desc i :=
  congrArg (·.get i) s.evalPool_descriptors
@[simp] theorem State.entry_evalPool (e : EntryId) : s.evalPool.entry e = s.entry e :=
  congrArg (·.get e) s.evalPool_entries
@[simp] theorem State.mbx_evalPool (m : MailboxId) : s.evalPool.mbx m = s.mbx m :=
  congrArg (·.get m) s.evalPool_mailboxes
@[simp] theorem State.freeBuffers_evalPool : s.evalPool.freeBuffers = s.freeBuffers :=
  congrArg (·.count (· = .free)) s.evalPool_buffers

/-! ### Buffers moved -/

/-- What a list of buffers moved to a set leaves in each place. -/
theorem Table.get_foldl_set {α : Type} {n : Nat} (bs : List (Fin n)) (x : α) (t : Table α n)
    (b : Fin n) :
    (bs.foldl (fun t b => t.set b x) t).get b = if b ∈ bs then x else t.get b := by
  induction bs generalizing t with
  | nil => simp
  | cons c rest ih =>
    rw [List.foldl_cons, ih, Table.get_set]
    by_cases h : b ∈ rest
    · simp [h]
    · by_cases hc : b = c <;> simp [h, hc]

/-- The buffers after some moved. -/
theorem State.get_moveBuffers (bs : List BufferId) (x : BufferSet) (b : BufferId) :
    (s.moveBuffers bs x).buffers.get b = if b ∈ bs then x else s.buffers.get b :=
  Table.get_foldl_set bs x s.buffers b

/-! ### Reports (R97 to R102) -/

section
variable (x : Port) (r : Report)
/-- A report handed to a port changes its reports, its lost reports and its event unit alone. -/
theorem Port.takeReport_room {x : Port} {r : Report} (h : x.reports.length < Config.reportPlaces) :
    x.takeReport r = { x with reports := x.reports ++ [r] } := by
  simp [Port.takeReport, h]
theorem Port.takeReport_full {x : Port} {r : Report}
    (h : Config.reportPlaces ≤ x.reports.length) :
    x.takeReport r = Port.raise { x with lostReports := bump x.lostReports } .reportLost := by
  simp [Port.takeReport, Nat.not_lt.2 h]
end

/-- The report machinery touches the sender port alone. -/
theorem State.handReport_cases (d : Descriptor) :
    s.handReport d = s ∨ s.handReport d = s.updPort d.senderPort (·.takeReport d.report) := by
  unfold State.handReport
  split
  · by_cases h : (s.port d.senderPort).session = .up ∧
        (s.port d.senderPort).epoch = d.senderEpoch
    · refine .inr ?_
      simp only [State.updPort, Table.modify]
      have h' := h
      simp only [State.port] at h'
      rw [if_pos h']
    · refine .inl (State.updPort_eq_self _ _ _ ?_)
      rw [if_neg h]
  · exact .inl rfl

/-- The port record after a message's report was handed on. -/
theorem State.port_handReport (d : Descriptor) (p : PortId) [Decidable (s.reportDue d p)] :
    (s.handReport d).port p =
      if s.reportDue d p then (s.port p).takeReport d.report else s.port p := by
  unfold State.handReport
  by_cases hw : d.reportWanted = true
  · rw [if_pos hw, State.port_updPort]
    by_cases hp : p = d.senderPort
    · subst hp
      simp [State.reportDue, hw]
    · simp [State.reportDue, hp]
  · rw [if_neg hw, if_neg fun h => hw h.1]

/-- What a handed report raises. -/
theorem State.told_handReport (d : Descriptor) (p : PortId) :
    Told (s.port p) ((s.handReport d).port p) fun ev =>
      ev = .reportLost ∧ s.reportDue d p ∧ Config.reportPlaces ≤ (s.port p).reports.length := by
  classical
  rw [State.port_handReport]
  split
  · next h =>
    by_cases hf : Config.reportPlaces ≤ (s.port p).reports.length
    · rw [Port.takeReport_full hf]
      exact ((told_raise { s.port p with lostReports := bump (s.port p).lostReports }
        .reportLost).congr fun ev => by simp [h, hf]).of_aside rfl rfl rfl rfl rfl rfl rfl rfl
    · rw [Port.takeReport_room (Nat.not_le.1 hf)]
      exact (Told.none (s.port p) fun ev => by simp [hf]).of_aside rfl rfl rfl rfl rfl rfl rfl rfl
  · next h => exact Told.none _ fun ev => by simp [h]

section
variable (d : Descriptor)
@[simp] theorem State.handReport_descriptors : (s.handReport d).descriptors = s.descriptors := by
  rcases s.handReport_cases d with h | h <;> rw [h]; rfl
@[simp] theorem State.handReport_entries : (s.handReport d).entries = s.entries := by
  rcases s.handReport_cases d with h | h <;> rw [h]; rfl
@[simp] theorem State.handReport_buffers : (s.handReport d).buffers = s.buffers := by
  rcases s.handReport_cases d with h | h <;> rw [h]; rfl
@[simp] theorem State.handReport_mem : (s.handReport d).mem = s.mem := by
  rcases s.handReport_cases d with h | h <;> rw [h]; rfl
@[simp] theorem State.handReport_mailboxes : (s.handReport d).mailboxes = s.mailboxes := by
  rcases s.handReport_cases d with h | h <;> rw [h]; rfl
@[simp] theorem State.handReport_groups : (s.handReport d).groups = s.groups := by
  rcases s.handReport_cases d with h | h <;> rw [h]; rfl
@[simp] theorem State.handReport_poolArmed : (s.handReport d).poolArmed = s.poolArmed := by
  rcases s.handReport_cases d with h | h <;> rw [h]; rfl
@[simp] theorem State.registers_handReport : (s.handReport d).registers = s.registers := by
  rcases s.handReport_cases d with h | h <;> rw [h]; rfl
end

/-! ### An offer that ends (R13 step 2) -/

/-- The model's `leaveFlight` is the port record without the offer. -/
theorem Port.leaveFlight_eq (x : Port) (e : EntryId) : x.leaveFlight e = x.withoutOffer e := by
  unfold Port.leaveFlight Port.withoutOffer without
  cases hp : x.prepared with
  | none => simp
  | some pr =>
    by_cases he : pr.entry = e
    · simp only [he, if_true, Option.filter]
      cases htx : x.tx with
      | sending f => cases f <;> simp [he]
      | idle => simp
      | stopped => simp
    · simp only [he, if_false, Option.filter]
      cases htx : x.tx with
      | sending f => cases f <;> simp [he, ← hp, ← htx]
      | idle => simp [he, ← hp, ← htx]
      | stopped => simp [he, ← hp, ← htx]

end Sys2Proof.Machine
end

section
namespace Sys2Proof.Machine

variable {s : State}

/-! ### Completion (R14) -/

@[simp] theorem State.completeMessage_entries (s : State) (i : DescId) (d : Descriptor) :
    (s.completeMessage i d).entries = s.entries := by simp [State.completeMessage]
@[simp] theorem State.completeMessage_mem (s : State) (i : DescId) (d : Descriptor) :
    (s.completeMessage i d).mem = s.mem := by simp [State.completeMessage]
@[simp] theorem State.completeMessage_mailboxes (s : State) (i : DescId) (d : Descriptor) :
    (s.completeMessage i d).mailboxes = s.mailboxes := by simp [State.completeMessage]
@[simp] theorem State.completeMessage_groups (s : State) (i : DescId) (d : Descriptor) :
    (s.completeMessage i d).groups = s.groups := by simp [State.completeMessage]
@[simp] theorem State.registers_completeMessage (s : State) (i : DescId) (d : Descriptor) :
    (s.completeMessage i d).registers = s.registers := by simp [State.completeMessage]
@[simp] theorem State.completeMessage_descriptors (s : State) (i : DescId) (d : Descriptor) :
    (s.completeMessage i d).descriptors = s.descriptors.set i none := by
  simp [State.completeMessage]

/-- The buffers after a completion (R14). -/
theorem State.buffers_completeMessage (s : State) (i : DescId) (d : Descriptor) (b : BufferId) :
    (s.completeMessage i d).buffers.get b = if b ∈ d.buffers then .free else s.buffers.get b := by
  rw [State.completeMessage, State.evalPool_buffers, State.setDesc_buffers, State.get_moveBuffers,
    State.handReport_buffers]

/-- Pool-low arming after a completion (R19). -/
theorem State.poolArmed_completeMessage (s : State) (i : DescId) (d : Descriptor) :
    (s.completeMessage i d).poolArmed =
      decide (s.lowMark ≤ (s.completeMessage i d).freeBuffers) := by
  have h := State.lowMark_of_registers (State.registers_handReport s d)
  rw [State.completeMessage, State.evalPool_armed, State.freeBuffers_evalPool]
  rw [State.setDesc_lowMark, State.moveBuffers_lowMark, h]

/-- What a completion raises at a port: REPORT_LOST at the sender, POOL_LOW everywhere (R19, R102). -/
theorem State.told_completeMessage (s : State) (i : DescId) (d : Descriptor) (p : PortId) :
    Told (s.port p) ((s.completeMessage i d).port p) fun ev =>
      (ev = .reportLost ∧ s.reportDue d p ∧
        Config.reportPlaces ≤ (s.port p).reports.length) ∨
      (ev = .poolLow ∧ s.poolArmed = true ∧
        (s.completeMessage i d).freeBuffers < s.lowMark) := by
  have h := State.lowMark_of_registers (State.registers_handReport s d)
  refine ((State.told_handReport s d p).trans
    (State.told_evalPool (((s.handReport d).moveBuffers d.buffers .free).setDesc i none) p)).congr
    fun ev => ?_
  rw [State.setDesc_poolArmed, State.moveBuffers_poolArmed, State.handReport_poolArmed,
    State.setDesc_lowMark, State.moveBuffers_lowMark, h, State.completeMessage,
    State.freeBuffers_evalPool]

/-- A completion changes at a port what a report, or the raise of POOL_LOW, changes. -/
theorem State.port_completeMessage_cases (s : State) (i : DescId) (d : Descriptor) (p : PortId) :
    (s.completeMessage i d).port p = (s.handReport d).port p ∨
    (s.completeMessage i d).port p = ((s.handReport d).port p).raise .poolLow :=
  State.port_evalPool_cases (((s.handReport d).moveBuffers d.buffers .free).setDesc i none) p

/-- What a message's report leaves in a port's record (R98, R101, R102). -/
theorem State.reports_handReport (s : State) (d : Descriptor) (p : PortId) :
    (s.reportDue d p ∧ (s.port p).reports.length < Config.reportPlaces →
      ((s.handReport d).port p).reports = (s.port p).reports ++ [d.report] ∧
        ((s.handReport d).port p).lostReports = (s.port p).lostReports) ∧
    (s.reportDue d p ∧ Config.reportPlaces ≤ (s.port p).reports.length →
      ((s.handReport d).port p).reports = (s.port p).reports ∧
        ((s.handReport d).port p).lostReports = bump (s.port p).lostReports) ∧
    (¬ s.reportDue d p →
      ((s.handReport d).port p).reports = (s.port p).reports ∧
        ((s.handReport d).port p).lostReports = (s.port p).lostReports) ∧
    ((s.handReport d).port p).replies = (s.port p).replies := by
  classical
  rw [State.port_handReport]
  by_cases hd : s.reportDue d p
  · rw [if_pos hd]
    by_cases hf : Config.reportPlaces ≤ (s.port p).reports.length
    · rw [Port.takeReport_full hf]
      simp [hd, hf, Nat.not_lt.2 hf]
    · rw [Port.takeReport_room (Nat.not_le.1 hf)]
      simp [hd, hf, Nat.not_le.1 hf]
  · simp [hd]

/-- Besides the report, a completion touches neither reports nor replies. -/
theorem State.reports_completeMessage (s : State) (i : DescId) (d : Descriptor) (p : PortId) :
    ((s.completeMessage i d).port p).reports = ((s.handReport d).port p).reports ∧
    ((s.completeMessage i d).port p).lostReports = ((s.handReport d).port p).lostReports ∧
    ((s.completeMessage i d).port p).replies = ((s.handReport d).port p).replies := by
  rcases s.port_completeMessage_cases i d p with h | h <;> simp [h]

/-! ### Resolution (R13) -/

/-- An entry taken out of its queue, its port and the entry table, its outcome counted: R13 steps 1 to 5. -/
def State.takeOut (s : State) (e : EntryId) (en : Entry) (o : EntryOutcome) : State :=
  (((s.updMbx en.mailbox (·.release e o)).updPort (s.mbx en.mailbox).owner
    (·.leaveFlight e)).setEntry e none).updDesc en.descriptor (·.settle o)

/-- A resolution up to the completion: R13 steps 1 to 6. -/
def State.countOut (s : State) (e : EntryId) (en : Entry) (o : EntryOutcome) : State :=
  (s.takeOut e en o).evalLevel en.mailbox

/-- A resolution counts the outcome and completes the message if it was the last one. -/
theorem State.resolve_some {e : EntryId} {en : Entry} (o : EntryOutcome)
    (h : s.entry e = some en) :
    s.resolve e o = (s.countOut e en o).completeIfDone en.descriptor := by
  simp only [State.resolve, h, State.countOut, State.takeOut]

/-- A FREE entry has no outcome to receive. -/
theorem State.resolve_none {e : EntryId} (o : EntryOutcome) (h : s.entry e = none) :
    s.resolve e o = s := by
  simp only [State.resolve, h]

section
variable (e : EntryId) (en : Entry) (o : EntryOutcome)

theorem State.entry_countOut (f : EntryId) :
    (s.countOut e en o).entry f = if f = e then none else s.entry f := by
  rw [State.countOut, State.entry_evalLevel]
  exact Table.get_set _ _ _ _

@[simp] theorem State.countOut_descriptors :
    (s.countOut e en o).descriptors =
      s.descriptors.set en.descriptor ((s.desc en.descriptor).map (·.settle o)) :=
  (s.takeOut e en o).evalLevel_descriptors _
@[simp] theorem State.countOut_buffers : (s.countOut e en o).buffers = s.buffers :=
  (s.takeOut e en o).evalLevel_buffers _
@[simp] theorem State.countOut_mem : (s.countOut e en o).mem = s.mem :=
  (s.takeOut e en o).evalLevel_mem _
@[simp] theorem State.countOut_groups : (s.countOut e en o).groups = s.groups :=
  (s.takeOut e en o).evalLevel_groups _
@[simp] theorem State.countOut_poolArmed : (s.countOut e en o).poolArmed = s.poolArmed :=
  (s.takeOut e en o).evalLevel_poolArmed _
@[simp] theorem State.registers_countOut : (s.countOut e en o).registers = s.registers :=
  (s.takeOut e en o).registers_evalLevel _

/-- The mailboxes without the entry. -/
theorem State.mbx_takeOut (m : MailboxId) :
    (s.takeOut e en o).mbx m = if m = en.mailbox then (s.mbx m).release e o else s.mbx m :=
  State.mbx_updMbx _ _ _ _

/-- The port records without the entry. -/
theorem State.port_takeOut (p : PortId) :
    (s.takeOut e en o).port p =
      if p = (s.mbx en.mailbox).owner then (s.port p).withoutOffer e else s.port p := by
  rw [← Port.leaveFlight_eq]
  exact State.port_updPort _ _ _ _

/-- The mailboxes after an outcome is counted: the queue without the entry, the arming evaluated (R26), a
PURGED entry of a CLOSING mailbox counted (R32). -/
theorem State.mbx_countOut (m : MailboxId) :
    (s.countOut e en o).mbx m =
      if m = en.mailbox then
        { s.mbx m with
          queue := without (s.mbx m).queue e
          armed := (s.mbx m).armedAt (without (s.mbx m).queue e).length
          closeCount := (s.mbx m).closeCount +
            if o = .purged ∧ (s.mbx m).state = .closing then 1 else 0 }
      else s.mbx m := by
  rw [State.countOut, State.mbx_evalLevel]
  split
  · next h =>
    rw [State.mbx_takeOut, if_pos h]
    by_cases hc : o = .purged ∧ (s.mbx m).state = .closing <;>
      simp [Mailbox.release, Mailbox.armedAt, without, hc]
  · next h => rw [State.mbx_takeOut, if_neg h]

/-- The port records after an outcome is counted: the owner's loses the offer, and LEVEL is raised there when
it is due. -/
theorem State.told_countOut (p : PortId) :
    Told (if p = (s.mbx en.mailbox).owner then (s.port p).withoutOffer e else s.port p)
      ((s.countOut e en o).port p) fun ev =>
        ev = .level ∧ p = (s.mbx en.mailbox).owner ∧
          (s.mbx en.mailbox).levelDue (without (s.mbx en.mailbox).queue e).length := by
  have h := State.told_evalLevel (s.takeOut e en o) en.mailbox p
  rwa [State.port_takeOut, State.mbx_takeOut, if_pos rfl] at h

/-- Counting an outcome touches neither reports nor replies. -/
theorem State.reports_countOut (p : PortId) :
    ((s.countOut e en o).port p).reports = (s.port p).reports ∧
    ((s.countOut e en o).port p).lostReports = (s.port p).lostReports ∧
    ((s.countOut e en o).port p).replies = (s.port p).replies := by
  have h := State.port_evalLevel_cases (s.takeOut e en o) en.mailbox p
  rw [State.port_takeOut] at h
  unfold State.countOut
  rcases h with h | h <;> rw [h] <;> split <;> simp [Port.withoutOffer]

/-- What a report of the message depends on is not touched by counting the outcome. -/
theorem State.reportDue_countOut (d : Descriptor) (p : PortId) :
    (s.countOut e en o).reportDue (d.counted o) p ↔ s.reportDue d p := by
  have ht := State.told_countOut (s := s) e en o p
  have hs : ((s.countOut e en o).port p).session = (s.port p).session := by
    rw [ht.session]; split <;> rfl
  have hep : ((s.countOut e en o).port p).epoch = (s.port p).epoch := by
    rw [ht.epoch]; split <;> rfl
  simp only [State.reportDue, hs, hep]
  rfl

end

theorem State.desc_countOut {e : EntryId} {en : Entry} {d : Descriptor} (o : EntryOutcome)
    (hd : s.desc en.descriptor = some d) (i : DescId) :
    (s.countOut e en o).desc i = if i = en.descriptor then some (d.counted o) else s.desc i := by
  show (s.countOut e en o).descriptors.get i = _
  rw [State.countOut_descriptors, Table.get_set, hd]
  rfl

/-- The resolution of the last entry of a message is what `Settled` says (R13, R14). -/
theorem settled_last {e : EntryId} {en : Entry} {d : Descriptor} (o : EntryOutcome)
    (hd : s.desc en.descriptor = some d) (h1 : d.refCount = 1) :
    Settled s ((s.countOut e en o).completeMessage en.descriptor (d.counted o)) e en d o := by
  have hlow := State.lowMark_of_registers (State.registers_countOut (s := s) e en o)
  have hrep := fun p => State.reports_countOut (s := s) e en o p
  have hdue := fun p => State.reportDue_countOut (s := s) e en o d p
  constructor
  case entries =>
    intro f
    show Table.get (State.entries _) f = _
    rw [State.completeMessage_entries]
    exact State.entry_countOut e en o f
  case message =>
    show Table.get (State.descriptors _) _ = _
    rw [State.completeMessage_descriptors, Table.get_set_self, if_pos h1]
  case messages =>
    intro i hne
    show Table.get (State.descriptors _) _ = _
    rw [State.completeMessage_descriptors, Table.get_set_ne _ _ hne]
    exact (State.desc_countOut o hd i).trans (if_neg hne)
  case buffers =>
    intro b
    rw [State.buffers_completeMessage, State.countOut_buffers]
    simp [h1, Descriptor.counted]
  case pool => rw [State.poolArmed_completeMessage, if_pos h1, hlow]
  case mailbox =>
    show Table.get (State.mailboxes _) _ = _
    rw [State.completeMessage_mailboxes]
    exact (State.mbx_countOut e en o _).trans (if_pos rfl)
  case mailboxes =>
    intro m hne
    show Table.get (State.mailboxes _) _ = _
    rw [State.completeMessage_mailboxes]
    exact (State.mbx_countOut e en o _).trans (if_neg hne)
  case ports =>
    intro p
    refine ((State.told_countOut e en o p).trans
      (State.told_completeMessage _ en.descriptor (d.counted o) p)).congr fun ev => ?_
    rw [hdue, (hrep p).1, State.countOut_poolArmed, hlow]
    simp [h1]
  case reports =>
    intro p
    obtain ⟨hr, hl, -⟩ :=
      State.reports_completeMessage (s.countOut e en o) en.descriptor (d.counted o) p
    obtain ⟨room, full, no, -⟩ := State.reports_handReport (s.countOut e en o) (d.counted o) p
    rw [hr, hl]
    rw [hdue, (hrep p).1, (hrep p).2.1] at room full no
    exact ⟨fun h => room h.2, fun h => full h.2, fun h => no fun hn => h ⟨h1, hn⟩⟩
  case replies =>
    intro p
    rw [(State.reports_completeMessage _ _ _ p).2.2, (State.reports_handReport _ _ p).2.2.2,
      (hrep p).2.2]
  case groups => simp
  case mem => simp
  case registers => simp

/-- The resolution of an entry that is not the message's last is what `Settled` says (R13). -/
theorem settled_more {e : EntryId} {en : Entry} {d : Descriptor} (o : EntryOutcome)
    (hd : s.desc en.descriptor = some d) (h1 : d.refCount ≠ 1) :
    Settled s (s.countOut e en o) e en d o := by
  have hrep := fun p => State.reports_countOut (s := s) e en o p
  constructor
  case entries => exact State.entry_countOut e en o
  case message => rw [State.desc_countOut o hd, if_pos rfl, if_neg h1]
  case messages => exact fun i hne => (State.desc_countOut o hd i).trans (if_neg hne)
  case buffers => simp [h1]
  case pool => simp [h1]
  case mailbox => exact (State.mbx_countOut e en o _).trans (if_pos rfl)
  case mailboxes => exact fun m hne => (State.mbx_countOut e en o m).trans (if_neg hne)
  case ports => exact fun p => (State.told_countOut e en o p).congr fun ev => by simp [h1]
  case reports => exact fun p => ⟨fun h => absurd h.1 h1, fun h => absurd h.1 h1,
    fun _ => ⟨(hrep p).1, (hrep p).2.1⟩⟩
  case replies => exact fun p => (hrep p).2.2
  case groups => simp
  case mem => simp
  case registers => simp

/-- The resolution of an entry of a message with references is what `Settled` says (R13). -/
theorem settled_resolve {e : EntryId} {en : Entry} {d : Descriptor} (o : EntryOutcome)
    (he : s.entry e = some en) (hd : s.desc en.descriptor = some d) (hr : 1 ≤ d.refCount) :
    Settled s (s.resolve e o) e en d o := by
  have hi := State.desc_countOut (e := e) o hd en.descriptor
  rw [if_pos rfl] at hi
  have hc : (d.counted o).refCount = d.refCount - 1 := rfl
  rw [State.resolve_some o he]
  simp only [State.completeIfDone, hi, hc]
  by_cases h1 : d.refCount = 1
  · rw [if_pos (by omega)]
    exact settled_last o hd h1
  · rw [if_neg (by omega)]
    exact settled_more o hd h1

end Sys2Proof.Machine
end

section
namespace Sys2Proof.Machine

variable {s t : State}

/-! ### Lists without one entry -/

@[simp] theorem mem_without {es : List EntryId} {e f : EntryId} :
    f ∈ without es e ↔ f ∈ es ∧ f ≠ e := by
  simp [without]

theorem without_sublist (es : List EntryId) (e : EntryId) : (without es e).Sublist es :=
  List.filter_sublist

theorem without_of_not_mem {es : List EntryId} {e : EntryId} (h : e ∉ es) : without es e = es := by
  simp only [without, List.filter_eq_self, decide_eq_true_eq]
  exact fun f hf hfe => h (hfe ▸ hf)

/-! ### Entries of a message (R12) -/

/-- Replacing an entry moves the number of entries that name a descriptor by that entry alone. -/
theorem State.entriesOf_setEntry (s : State) (e : EntryId) (x : Option Entry) (i : DescId) :
    (s.setEntry e x).entriesOf i + (if (s.entry e).map (·.descriptor) = some i then 1 else 0) =
      s.entriesOf i + if x.map (·.descriptor) = some i then 1 else 0 := by
  have h := Table.count_set s.entries e x fun x =>
    match x with
    | some en => decide (en.descriptor = i)
    | none => false
  have hx : ∀ y : Option Entry, ((match y with
      | some en => decide (en.descriptor = i)
      | none => false) = true) = (y.map (·.descriptor) = some i) := fun y => by
    cases y <;> simp
  simp only [hx] at h
  exact h

/-- A message with one entry has no other. -/
theorem State.entriesOf_one {i : DescId} {e f : EntryId} {x y : Entry} (h : s.entriesOf i = 1)
    (he : s.entry e = some x) (hf : s.entry f = some y) (hx : x.descriptor = i)
    (hy : y.descriptor = i) : e = f := by
  rw [State.entriesOf, Table.count_eq_length_indices] at h
  obtain ⟨a, ha⟩ := List.length_eq_one_iff.1 h
  have mem : ∀ g z, s.entry g = some z → z.descriptor = i → g = a := fun g z hg hz => by
    have hg' : s.entries.get g = some z := hg
    have : g ∈ [a] := ha ▸ (Table.mem_indices _ _ _).2 (by simp [hg', hz])
    simpa using this
  rw [mem e x he hx, mem f y hf hy]

/-! ### The store law without its clause on CLOSING mailboxes -/

/-- `StoreLaw` but for CLOSING mailboxes, whose clause fails inside a close and inside a session end. -/
structure StoreCore (s : State) : Prop where
  entry : ∀ e en, s.entry e = some en →
    (s.desc en.descriptor).isSome ∧ e ∈ (s.mbx en.mailbox).queue
  settings : ∀ m, (s.mbx m).state ≠ .free →
    1 ≤ (s.mbx m).depth ∧ (s.mbx m).depth ≤ 32 ∧ 1 ≤ (s.mbx m).ackWindow ∧
      (s.mbx m).ackWindow ≤ 10000 ∧ 1 ≤ (s.mbx m).retryLimit ∧ (s.mbx m).retryLimit ≤ 15 ∧
      (s.mbx m).watermark ≤ (s.mbx m).depth
  attempts : ∀ e en, s.entry e = some en →
    if en.queued then en.attempts < (s.mbx en.mailbox).retryLimit
    else 1 ≤ en.attempts ∧ en.attempts ≤ (s.mbx en.mailbox).retryLimit
  queue : ∀ m e, e ∈ (s.mbx m).queue → ∃ en, s.entry e = some en ∧ en.mailbox = m
  bounded : ∀ m, (s.mbx m).queue.Nodup ∧ (s.mbx m).queue.length ≤ (s.mbx m).depth ∧
    ((s.mbx m).state = .free → (s.mbx m).queue = [])
  sorted : ∀ m, (s.mbx m).queue.Pairwise fun a b => keyAhead (s.key b) (s.key a) = false
  references : ∀ i d, s.desc i = some d → d.refCount = s.entriesOf i ∧ 1 ≤ d.refCount
  tally : ∀ i d, s.desc i = some d → d.tally.sum + d.refCount = d.targets
  distinct : ∀ e f x y, s.entry e = some x → s.entry f = some y →
    x.descriptor = y.descriptor → x.mailbox = y.mailbox → e = f
  flight : ∀ p e, e ∈ (s.port p).inFlight →
    ∃ en, s.entry e = some en ∧ en.queued = false ∧ (s.mbx en.mailbox).owner = p
  offered : ∀ e en, s.entry e = some en → en.queued = false →
    e ∈ (s.port (s.mbx en.mailbox).owner).inFlight
  once : ∀ p, (s.port p).inFlight.Nodup
  prepared : ∀ p pr, (s.port p).prepared = some pr → pr.entry ∈ (s.port p).inFlight
  phase : ∀ p e en o, e ∈ (s.port p).inFlight → s.entry e = some en → en.offer = some o →
    (o.phase = .sending ↔ (s.port p).prepared.map (·.entry) = some e)
  ids : ∀ p, ((s.port p).inFlight.map s.offerIdOf).Nodup
  dormant : ∀ m, (s.mbx m).state = .dormant → ∀ e ∈ (s.mbx m).queue, s.isQueued e = true
  owner : ∀ m, (s.mbx m).state = .opened ∨ (s.mbx m).state = .closing →
    (s.port (s.mbx m).owner).session = .up

/-- The store law is its core and its clause on CLOSING mailboxes. -/
theorem storeLaw_iff : StoreLaw s ↔ StoreCore s ∧ ∀ m, (s.mbx m).state = .closing →
    (s.mbx m).queue ≠ [] ∧ s.queuedIn m = [] :=
  ⟨fun h => ⟨⟨h.entry, h.settings, h.attempts, h.queue, h.bounded, h.sorted, h.references, h.tally,
      h.distinct, h.flight, h.offered, h.once, h.prepared, h.phase, h.ids, h.dormant, h.owner⟩,
      h.closing⟩,
    fun ⟨h, hc⟩ => ⟨h.entry, h.settings, h.attempts, h.queue, h.bounded, h.sorted, h.references,
      h.tally, h.distinct, h.flight, h.offered, h.once, h.prepared, h.phase, h.ids, hc, h.dormant,
      h.owner⟩⟩

theorem StoreLaw.core (h : StoreLaw s) : StoreCore s := (storeLaw_iff.1 h).1

/-- None of the entries of a CLOSING mailbox is QUEUED (R30). -/
def State.closingOffered (s : State) : Prop := ∀ m, (s.mbx m).state = .closing → s.queuedIn m = []

theorem StoreLaw.closingOffered (h : StoreLaw s) : s.closingOffered := fun m hm => (h.closing m hm).2

theorem State.queuedIn_eq_nil {m : MailboxId} :
    s.queuedIn m = [] ↔ ∀ e ∈ (s.mbx m).queue, s.isQueued e = false := by
  simp [State.queuedIn, List.filter_eq_nil_iff]

theorem State.isQueued_some {e : EntryId} {en : Entry} (h : s.entry e = some en) :
    s.isQueued e = en.queued := by
  simp [State.isQueued, h]

theorem State.isQueued_congr {e : EntryId} (h : t.entry e = s.entry e) :
    t.isQueued e = s.isQueued e := by
  unfold State.isQueued; rw [h]

theorem State.offerIdOf_congr {e : EntryId} (h : t.entry e = s.entry e) :
    t.offerIdOf e = s.offerIdOf e := by
  unfold State.offerIdOf; rw [h]

/-- The key of an entry is that of its message (R5). -/
theorem State.key_some {e : EntryId} {en : Entry} {d : Descriptor} (he : s.entry e = some en)
    (hd : s.desc en.descriptor = some d) : s.key e = (d.cls.rank, d.sequence.toNat) := by
  simp [State.key, he, hd]

/-- The message of an entry. -/
theorem StoreCore.message (h : StoreCore s) {e : EntryId} {en : Entry} (he : s.entry e = some en) :
    ∃ d, s.desc en.descriptor = some d ∧ 1 ≤ d.refCount := by
  obtain ⟨d, hd⟩ := Option.isSome_iff_exists.1 (h.entry e en he).1
  exact ⟨d, hd, (h.references _ _ hd).2⟩

/-- An entry stands in the queue of its own mailbox and in no other. -/
theorem StoreCore.mem_queue (h : StoreCore s) {e : EntryId} {en : Entry} (he : s.entry e = some en)
    (m : MailboxId) : e ∈ (s.mbx m).queue ↔ m = en.mailbox := by
  constructor
  · intro hm
    obtain ⟨en', he', rfl⟩ := h.queue m e hm
    rw [he] at he'
    cases he'
    rfl
  · rintro rfl
    exact (h.entry e en he).2

/-! ### A resolution keeps the core -/

section
variable {e : EntryId} {en : Entry} {d : Descriptor} {o : EntryOutcome}

/-- The mailboxes after a resolution: no queue holds the entry, and a PURGED one of a CLOSING mailbox is
counted (R32). -/
theorem Settled.mbx (h : Settled s t e en d o) (hc : StoreCore s) (he : s.entry e = some en)
    (m : MailboxId) : ∃ a, t.mbx m =
      { s.mbx m with
        queue := without (s.mbx m).queue e, armed := a
        closeCount := (s.mbx m).closeCount +
          if o = .purged ∧ (s.mbx m).state = .closing ∧ e ∈ (s.mbx m).queue then 1 else 0 } := by
  by_cases hm : m = en.mailbox
  · subst hm
    have hq := (hc.mem_queue he en.mailbox).2 rfl
    exact ⟨_, h.mailbox.trans (by simp only [hq, and_true]; rfl)⟩
  · have hq : e ∉ (s.mbx m).queue := fun hq => hm ((hc.mem_queue he m).1 hq)
    refine ⟨(s.mbx m).armed, (h.mailboxes m hm).trans ?_⟩
    simp [without_of_not_mem hq, hq]

/-- The ports without the offer of `e`: no in-flight list holds the entry, and none has it prepared. -/
theorem StoreCore.port_withoutOffer (hc : StoreCore s) (he : s.entry e = some en) (p : PortId)
    {x : Port}
    (hx : x = if p = (s.mbx en.mailbox).owner then (s.port p).withoutOffer e else s.port p) :
    x.session = (s.port p).session ∧ x.inFlight = without (s.port p).inFlight e ∧
      x.prepared = (s.port p).prepared.filter fun pr => decide (pr.entry ≠ e) := by
  by_cases hp : p = (s.mbx en.mailbox).owner
  · rw [hx, if_pos hp]
    exact ⟨rfl, rfl, rfl⟩
  · have hn : e ∉ (s.port p).inFlight := fun hf => by
      obtain ⟨en', he', -, ho⟩ := hc.flight p e hf
      rw [he] at he'
      cases he'
      exact hp ho.symm
    rw [hx, if_neg hp, without_of_not_mem hn]
    refine ⟨rfl, rfl, ?_⟩
    cases hpr : (s.port p).prepared with
    | none => rfl
    | some pr =>
      have : pr.entry ≠ e := fun hpe => hn (hpe ▸ hc.prepared p pr hpr)
      simp [Option.filter, this]

/-- The ports after a resolution. -/
theorem Settled.port (h : Settled s t e en d o) (hc : StoreCore s) (he : s.entry e = some en)
    (p : PortId) : (t.port p).session = (s.port p).session ∧
      (t.port p).inFlight = without (s.port p).inFlight e ∧
      (t.port p).prepared = (s.port p).prepared.filter fun pr => decide (pr.entry ≠ e) := by
  have ht := h.ports p
  rw [ht.session, ht.inFlight, ht.prepared]
  exact hc.port_withoutOffer he p rfl

/-- A prepared offer other than `e`'s is told apart by its entry. -/
theorem prepared_filter {x : Option Prepared} {e f : EntryId} (h : f ≠ e) :
    (x.filter fun pr => decide (pr.entry ≠ e)).map (·.entry) = some f ↔
      x.map (·.entry) = some f := by
  cases x with
  | none => rfl
  | some pr =>
    by_cases hp : pr.entry = e
    · simp [Option.filter, hp, h.symm]
    · simp [Option.filter, hp]

/-- An entry that outlives a resolution is as it was. -/
theorem Settled.entry_some (h : Settled s t e en d o) {f : EntryId} {x : Entry} :
    t.entry f = some x ↔ f ≠ e ∧ s.entry f = some x := by
  rw [h.entries]
  by_cases hf : f = e <;> simp [hf]

/-- The message of an entry that outlives a resolution lives on. -/
theorem Settled.desc_some (h : Settled s t e en d o) (hc : StoreCore s) (he : s.entry e = some en)
    (hd : s.desc en.descriptor = some d) {f : EntryId} {x : Entry} (hf : t.entry f = some x) :
    t.desc x.descriptor =
      (s.desc x.descriptor).map fun y => if x.descriptor = en.descriptor then y.counted o else y := by
  obtain ⟨hne, hx⟩ := h.entry_some.1 hf
  by_cases hi : x.descriptor = en.descriptor
  · have h1 : d.refCount ≠ 1 := fun h1 => hne
      (State.entriesOf_one ((hc.references _ _ hd).1.symm.trans h1) hx he hi rfl)
    rw [hi, h.message, if_neg h1, hd]
    simp
  · rw [h.messages _ hi]
    simp [hi]

/-- An entry that outlives a resolution keeps its place in the order. -/
theorem Settled.key (h : Settled s t e en d o) (hc : StoreCore s) (he : s.entry e = some en)
    (hd : s.desc en.descriptor = some d) {f : EntryId} {x : Entry} (hf : t.entry f = some x) :
    t.key f = s.key f := by
  obtain ⟨-, hx⟩ := h.entry_some.1 hf
  obtain ⟨y, hy, -⟩ := hc.message hx
  have ht := h.desc_some hc he hd hf
  rw [hy] at ht
  rw [State.key_some hf ht, State.key_some hx hy]
  split <;> rfl

/-- The count of a message's entries after a resolution. -/
theorem Settled.entriesOf (h : Settled s t e en d o) (he : s.entry e = some en) (i : DescId) :
    t.entriesOf i + (if en.descriptor = i then 1 else 0) = s.entriesOf i := by
  have ht : t.entries = (s.setEntry e none).entries := Table.ext_get fun f => by
    rw [State.setEntry_entries, Table.get_set]
    exact h.entries f
  have := State.entriesOf_setEntry s e none i
  rw [he] at this
  simpa [State.entriesOf, ht] using this

/-- A resolution keeps the core of the store law. -/
theorem Settled.storeCore (h : Settled s t e en d o) (hc : StoreCore s) (he : s.entry e = some en)
    (hd : s.desc en.descriptor = some d) : StoreCore t := by
  have hm := h.mbx hc he
  have hp := h.port hc he
  have hs : ∀ m, (t.mbx m).state = (s.mbx m).state := fun m => by
    obtain ⟨a, hm⟩ := hm m; rw [hm]
  have ho : ∀ m, (t.mbx m).owner = (s.mbx m).owner := fun m => by
    obtain ⟨a, hm⟩ := hm m; rw [hm]
  have hq : ∀ m, (t.mbx m).queue = without (s.mbx m).queue e := fun m => by
    obtain ⟨a, hm⟩ := hm m; rw [hm]
  have hl : ∀ m, (t.mbx m).retryLimit = (s.mbx m).retryLimit := fun m => by
    obtain ⟨a, hm⟩ := hm m; rw [hm]
  have same : ∀ f, f ≠ e → t.entry f = s.entry f := fun f hf => by rw [h.entries, if_neg hf]
  have msg : ∀ i y, t.desc i = some y →
      ∃ x, s.desc i = some x ∧ y = (if i = en.descriptor then x.counted o else x) ∧
        (i = en.descriptor → x.refCount ≠ 1) := fun i y hy => by
    by_cases hi : i = en.descriptor
    · subst hi
      rw [h.message] at hy
      split at hy
      · cases hy
      · next h1 => cases hy; exact ⟨d, hd, by simp, fun _ => h1⟩
    · rw [h.messages i hi] at hy
      exact ⟨y, hy, by simp [hi], fun hh => absurd hh hi⟩
  constructor
  case entry =>
    intro f x hf
    obtain ⟨hne, hx⟩ := h.entry_some.1 hf
    rw [h.desc_some hc he hd hf, hq]
    exact ⟨by simpa using (hc.entry f x hx).1, mem_without.2 ⟨(hc.entry f x hx).2, hne⟩⟩
  case settings =>
    intro m hf
    obtain ⟨a, hm⟩ := hm m
    rw [hm] at hf ⊢
    exact hc.settings m hf
  case attempts =>
    intro f x hf
    rw [hl]
    exact hc.attempts f x (h.entry_some.1 hf).2
  case queue =>
    intro m f hf
    rw [hq, mem_without] at hf
    obtain ⟨x, hx, hxm⟩ := hc.queue m f hf.1
    exact ⟨x, h.entry_some.2 ⟨hf.2, hx⟩, hxm⟩
  case bounded =>
    intro m
    obtain ⟨a, hm⟩ := hm m
    obtain ⟨hn, hlen, hfree⟩ := hc.bounded m
    rw [hm]
    exact ⟨hn.sublist (without_sublist _ _), (without_sublist _ _).length_le.trans hlen,
      fun hf => by simp [hfree hf, without]⟩
  case sorted =>
    intro m
    rw [hq]
    refine List.Pairwise.imp_of_mem (fun {a b} ha hb hab => ?_)
      ((hc.sorted m).sublist (without_sublist _ _))
    have key : ∀ f ∈ without (s.mbx m).queue e, t.key f = s.key f := fun f hf => by
      obtain ⟨hf, hne⟩ := mem_without.1 hf
      obtain ⟨x, hx, -⟩ := hc.queue m f hf
      exact h.key hc he hd (h.entry_some.2 ⟨hne, hx⟩)
    rw [key a ha, key b hb]
    exact hab
  case references =>
    intro i y hy
    obtain ⟨x, hx, rfl, h1⟩ := msg i y hy
    obtain ⟨href, hpos⟩ := hc.references i x hx
    have hcount := h.entriesOf he i
    by_cases hi : i = en.descriptor
    · have := h1 hi
      simp only [hi, if_true, Descriptor.counted] at hcount ⊢
      rw [hi] at href
      omega
    · rw [if_neg (Ne.symm hi)] at hcount
      simp only [hi, if_false]
      omega
  case tally =>
    intro i y hy
    obtain ⟨x, hx, rfl, h1⟩ := msg i y hy
    have htal := hc.tally i x hx
    have hpos := (hc.references i x hx).2
    by_cases hi : i = en.descriptor
    · simp only [hi, if_true, Descriptor.counted]
      cases o <;> simp only [Tally.sum, Tally.add] at htal ⊢ <;> omega
    · simpa only [hi, if_false] using htal
  case distinct =>
    intro f g x y hf hg
    exact hc.distinct f g x y (h.entry_some.1 hf).2 (h.entry_some.1 hg).2
  case flight =>
    intro p f hf
    rw [(hp p).2.1, mem_without] at hf
    obtain ⟨x, hx, hxq, hxo⟩ := hc.flight p f hf.1
    exact ⟨x, h.entry_some.2 ⟨hf.2, hx⟩, hxq, by rw [ho, hxo]⟩
  case offered =>
    intro f x hf hxq
    obtain ⟨hne, hx⟩ := h.entry_some.1 hf
    rw [ho, (hp _).2.1, mem_without]
    exact ⟨hc.offered f x hx hxq, hne⟩
  case once =>
    intro p
    rw [(hp p).2.1]
    exact (hc.once p).sublist (without_sublist _ _)
  case prepared =>
    intro p pr hpr
    rw [(hp p).2.2, Option.filter_eq_some_iff] at hpr
    rw [(hp p).2.1, mem_without]
    exact ⟨hc.prepared p pr hpr.1, by simpa using hpr.2⟩
  case phase =>
    intro p f x w hf hx hw
    rw [(hp p).2.1, mem_without] at hf
    rw [(hp p).2.2, prepared_filter hf.2]
    exact hc.phase p f x w hf.1 (h.entry_some.1 hx).2 hw
  case ids =>
    intro p
    rw [(hp p).2.1, List.map_congr_left fun f hf =>
      State.offerIdOf_congr (same f (mem_without.1 hf).2)]
    exact (hc.ids p).sublist ((without_sublist _ _).map _)
  case dormant =>
    intro m hd f hf
    rw [hq, mem_without] at hf
    rw [State.isQueued_congr (same f hf.2)]
    exact hc.dormant m ((hs m).symm.trans hd) f hf.1
  case owner =>
    intro m hm
    rw [hs] at hm
    rw [ho, (hp _).1]
    exact hc.owner m hm

/-- A resolution leaves no QUEUED entry in a CLOSING mailbox that had none. -/
theorem Settled.closingOffered (h : Settled s t e en d o) (hc : StoreCore s)
    (he : s.entry e = some en) (hco : s.closingOffered) : t.closingOffered := fun m hm => by
  obtain ⟨a, hmb⟩ := h.mbx hc he m
  rw [State.queuedIn_eq_nil, hmb]
  rw [hmb] at hm
  intro f hf
  obtain ⟨hf, hne⟩ := mem_without.1 hf
  rw [State.isQueued_congr (s := s) (by rw [h.entries, if_neg hne])]
  exact State.queuedIn_eq_nil.1 (hco m hm) f hf

end

/-! ### A requeue keeps the core -/

/-- An entry put back QUEUED with `n` attempts, its offer gone from its owner's port. -/
def State.putBack (s : State) (e : EntryId) (en : Entry) (n : Nat) : State :=
  (s.setEntry e (some { en with attempts := n, offer := none })).updPort (s.mbx en.mailbox).owner
    (·.withoutOffer e)

/-- A requeue puts the entry back with its attempts (R83). -/
theorem State.requeued_eq (s : State) (e : EntryId) (en : Entry) :
    s.requeued e en = s.putBack e en en.attempts := rfl

/-- A requeue after the attempts were changed puts the entry back with those (R85). -/
theorem State.requeued_setEntry (s : State) (e : EntryId) (en : Entry) (n : Nat) :
    (s.setEntry e (some { en with attempts := n })).requeued e { en with attempts := n } =
      s.putBack e en n := by
  simp [State.requeued, State.putBack, State.setEntry, State.mbx]

theorem State.entry_putBack (s : State) (e : EntryId) (en : Entry) (n : Nat) (f : EntryId) :
    (s.putBack e en n).entry f =
      if f = e then some { en with attempts := n, offer := none } else s.entry f :=
  Table.get_set _ _ _ _

theorem State.port_putBack (s : State) (e : EntryId) (en : Entry) (n : Nat) (p : PortId) :
    (s.putBack e en n).port p =
      if p = (s.mbx en.mailbox).owner then (s.port p).withoutOffer e else s.port p :=
  State.port_updPort _ _ _ _

section
variable {e : EntryId} {en : Entry} {n : Nat}

/-- The entries after one is put back. -/
theorem State.putBack_some (s : State) {f : EntryId} {x : Entry}
    (hx : (s.putBack e en n).entry f = some x) :
    (f = e ∧ x = { en with attempts := n, offer := none }) ∨ (f ≠ e ∧ s.entry f = some x) := by
  rw [State.entry_putBack] at hx
  split at hx
  · next hf => cases hx; exact .inl ⟨hf, rfl⟩
  · next hf => exact .inr ⟨hf, hx⟩

/-- An entry put back names the message and the mailbox that it named. -/
theorem State.putBack_origin (s : State) (he : s.entry e = some en) {f : EntryId} {x : Entry}
    (hx : (s.putBack e en n).entry f = some x) :
    ∃ y, s.entry f = some y ∧ y.descriptor = x.descriptor ∧ y.mailbox = x.mailbox := by
  rcases s.putBack_some hx with ⟨rfl, rfl⟩ | ⟨-, hx⟩
  · exact ⟨en, he, rfl, rfl⟩
  · exact ⟨x, hx, rfl, rfl⟩

/-- Putting an entry back leaves every key as it was. -/
theorem State.key_putBack (s : State) (he : s.entry e = some en) (f : EntryId) :
    (s.putBack e en n).key f = s.key f := by
  unfold State.key
  rw [State.entry_putBack]
  by_cases hf : f = e
  · subst hf
    rw [if_pos rfl, he]
    rfl
  · rw [if_neg hf]
    rfl

/-- An entry put back with attempts below the limit keeps the core of the store law (R83, R85). -/
theorem StoreCore.putBack (hc : StoreCore s) (he : s.entry e = some en)
    (hn : n < (s.mbx en.mailbox).retryLimit) : StoreCore (s.putBack e en n) := by
  have hp := fun p => hc.port_withoutOffer he p (s.port_putBack e en n p)
  constructor
  case entry =>
    intro f x hx
    obtain ⟨y, hy, hyd, hym⟩ := s.putBack_origin he hx
    rw [← hyd, ← hym]
    exact hc.entry f y hy
  case settings => exact hc.settings
  case attempts =>
    intro f x hx
    rcases s.putBack_some hx with ⟨rfl, rfl⟩ | ⟨-, hx⟩
    · exact hn
    · exact hc.attempts f x hx
  case queue =>
    intro m f hf
    obtain ⟨y, hy, rfl⟩ := hc.queue m f hf
    rw [State.entry_putBack]
    by_cases h : f = e
    · subst h
      rw [he] at hy
      cases hy
      exact ⟨_, if_pos rfl, rfl⟩
    · exact ⟨y, (if_neg h).trans hy, rfl⟩
  case bounded => exact hc.bounded
  case sorted =>
    intro m
    simp only [s.key_putBack he]
    exact hc.sorted m
  case references =>
    intro i y hy
    have := State.entriesOf_setEntry s e (some { en with attempts := n, offer := none }) i
    have h : s.entriesOf i = (s.putBack e en n).entriesOf i := by
      rw [he] at this
      exact (Nat.add_right_cancel this).symm
    rw [← h]
    exact hc.references i y hy
  case tally => exact hc.tally
  case distinct =>
    intro f g x y hf hg hd hm
    obtain ⟨x', hx, hxd, hxm⟩ := s.putBack_origin he hf
    obtain ⟨y', hy, hyd, hym⟩ := s.putBack_origin he hg
    exact hc.distinct f g x' y' hx hy (by rw [hxd, hyd, hd]) (by rw [hxm, hym, hm])
  case flight =>
    intro p f hf
    rw [(hp p).2.1, mem_without] at hf
    obtain ⟨x, hx, hxq, hxo⟩ := hc.flight p f hf.1
    exact ⟨x, by rw [State.entry_putBack, if_neg hf.2, hx], hxq, hxo⟩
  case offered =>
    intro f x hx hxq
    rcases s.putBack_some hx with ⟨rfl, rfl⟩ | ⟨hne, hx⟩
    · simp [Entry.queued] at hxq
    · rw [(hp _).2.1, mem_without]
      exact ⟨hc.offered f x hx hxq, hne⟩
  case once =>
    intro p
    rw [(hp p).2.1]
    exact (hc.once p).sublist (without_sublist _ _)
  case prepared =>
    intro p pr hpr
    rw [(hp p).2.2, Option.filter_eq_some_iff] at hpr
    rw [(hp p).2.1, mem_without]
    exact ⟨hc.prepared p pr hpr.1, by simpa using hpr.2⟩
  case phase =>
    intro p f x w hf hx hw
    rw [(hp p).2.1, mem_without] at hf
    rw [(hp p).2.2, prepared_filter hf.2]
    rw [State.entry_putBack, if_neg hf.2] at hx
    exact hc.phase p f x w hf.1 hx hw
  case ids =>
    intro p
    rw [(hp p).2.1, List.map_congr_left fun f hf => State.offerIdOf_congr (s := s)
      (by rw [State.entry_putBack, if_neg (mem_without.1 hf).2])]
    exact (hc.ids p).sublist ((without_sublist _ _).map _)
  case dormant =>
    intro m hd f hf
    by_cases h : f = e
    · subst h
      rw [State.isQueued_some ((s.entry_putBack f en n f).trans (if_pos rfl))]
      rfl
    · rw [State.isQueued_congr (s := s) (by rw [State.entry_putBack, if_neg h])]
      exact hc.dormant m hd f hf
  case owner =>
    intro m hm
    rw [(hp _).1]
    exact hc.owner m hm

/-- An entry put back in a mailbox that is not CLOSING leaves no QUEUED entry in a CLOSING one. -/
theorem State.closingOffered_putBack (hc : StoreCore s) (he : s.entry e = some en)
    (hco : s.closingOffered) (hs : (s.mbx en.mailbox).state ≠ .closing) :
    (s.putBack e en n).closingOffered := fun m hm => by
  rw [State.queuedIn_eq_nil]
  intro f hf
  have hne : f ≠ e := fun hfe => hs ((hc.mem_queue he m).1 (hfe ▸ hf) ▸ hm)
  rw [State.isQueued_congr (s := s) (by rw [State.entry_putBack, if_neg hne])]
  exact State.queuedIn_eq_nil.1 (hco m hm) f hf

end

end Sys2Proof.Machine
end

section
namespace Sys2Proof.Machine

variable {s t : State}

/-! ### Several entries resolved as one cause (R16) -/

@[simp] theorem State.resolveAll_nil (s : State) (o : EntryOutcome) : s.resolveAll [] o = s := rfl
@[simp] theorem State.resolveAll_cons (s : State) (e : EntryId) (es : List EntryId)
    (o : EntryOutcome) : s.resolveAll (e :: es) o = (s.resolve e o).resolveAll es o := rfl

/-- Entries of lawful queues resolved in turn are removed as the statements say it. -/
theorem removed_resolveAll (hc : StoreCore s) {es : List EntryId} (o : EntryOutcome)
    (hn : es.Nodup) (hes : ∀ e ∈ es, ∃ en, s.entry e = some en) :
    Removed s (s.resolveAll es o) es o := by
  induction es generalizing s with
  | nil => rfl
  | cons e rest ih =>
    obtain ⟨en, he⟩ := hes e (by simp)
    obtain ⟨d, hd, hr⟩ := hc.message he
    have hset := settled_resolve o he hd hr
    obtain ⟨hnot, hrest⟩ := List.nodup_cons.1 hn
    refine ⟨_, en, d, he, hd, hset, ih (hset.storeCore hc he hd) hrest fun f hf => ?_⟩
    obtain ⟨x, hx⟩ := hes f (by simp [hf])
    exact ⟨x, hset.entry_some.2 ⟨fun h => hnot (h ▸ hf), hx⟩⟩

/-- What a chain of resolutions leaves of the entries, the mailboxes and the core of the store law. -/
structure Gone (s t : State) (es : List EntryId) (o : EntryOutcome) : Prop where
  core : StoreCore t
  offered : s.closingOffered → t.closingOffered
  entries : ∀ f, t.entry f = if f ∈ es then none else s.entry f
  mailboxes : ∀ m, ∃ a, t.mbx m =
    { s.mbx m with
      queue := (s.mbx m).queue.filter fun f => decide (f ∉ es), armed := a
      closeCount := (s.mbx m).closeCount +
        if o = .purged ∧ (s.mbx m).state = .closing then
          (es.filter fun f => decide (f ∈ (s.mbx m).queue)).length
        else 0 }

/-- A chain of resolutions takes its entries out of the store and keeps the core. -/
theorem Removed.gone {es : List EntryId} {o : EntryOutcome} (h : Removed s t es o)
    (hc : StoreCore s) (hn : es.Nodup) : Gone s t es o := by
  induction es generalizing s with
  | nil =>
    obtain rfl : t = s := h
    exact ⟨hc, id, by simp, fun m => ⟨(t.mbx m).armed, by simp⟩⟩
  | cons e rest ih =>
    obtain ⟨u, en, d, he, hd, hset, hrem⟩ := h
    obtain ⟨hnot, hrest⟩ := List.nodup_cons.1 hn
    have hg := ih hrem (hset.storeCore hc he hd) hrest
    refine ⟨hg.core, fun hco => hg.offered (hset.closingOffered hc he hco), fun f => ?_,
      fun m => ?_⟩
    · rw [hg.entries, hset.entries]
      by_cases hf : f ∈ rest <;> by_cases hfe : f = e <;> simp [hf, hfe]
    · obtain ⟨a, hm⟩ := hg.mailboxes m
      obtain ⟨b, hu⟩ := hset.mbx hc he m
      refine ⟨a, ?_⟩
      have hr : rest.filter (fun f => decide (f ∈ without (s.mbx m).queue e)) =
          rest.filter fun f => decide (f ∈ (s.mbx m).queue) :=
        List.filter_congr fun f hf => by
          have : f ≠ e := fun h => hnot (h ▸ hf)
          simp [this]
      have hq : (without (s.mbx m).queue e).filter (fun f => decide (f ∉ rest)) =
          (s.mbx m).queue.filter fun f => decide (f ∉ e :: rest) := by
        rw [without, List.filter_filter]
        exact List.filter_congr fun f _ => by
          by_cases hf : f = e <;> by_cases hfr : f ∈ rest <;> simp [hf, hfr]
      rw [hm, hu]
      simp only [hr, hq, Mailbox.mk.injEq, true_and]
      by_cases hk : o = .purged ∧ (s.mbx m).state = .closing
      · by_cases heq : e ∈ (s.mbx m).queue
        · simp only [hk.1, hk.2, heq, and_self, if_true, List.filter_cons, decide_true,
            List.length_cons]
          omega
        · simp [hk.1, hk.2, heq]
      · have hk' : ¬ (o = .purged ∧ (s.mbx m).state = .closing ∧ e ∈ (s.mbx m).queue) :=
          fun h => hk ⟨h.1, h.2.1⟩
        rw [if_neg hk, if_neg hk', if_neg hk]

/-- What a chain of resolutions of entries of one message leaves of the message. -/
theorem Removed.message {es : List EntryId} {o : EntryOutcome} {i : DescId} {d : Descriptor}
    (h : Removed s t es o) (hc : StoreCore s) (hn : es.Nodup) (hd : s.desc i = some d)
    (hes : ∀ e ∈ es, ∃ en, s.entry e = some en ∧ en.descriptor = i) :
    (es.length = d.refCount → t.desc i = none) ∧
    (es.length ≠ d.refCount →
      ∃ x, t.desc i = some x ∧ x.refCount = d.refCount - es.length) := by
  induction es generalizing s d with
  | nil =>
    obtain rfl : t = s := h
    have := (hc.references i d hd).2
    exact ⟨fun h0 => by simp at h0; omega, fun _ => ⟨d, hd, rfl⟩⟩
  | cons e rest ih =>
    obtain ⟨u, en, d', he, hd', hset, hrem⟩ := h
    obtain ⟨x, hx, rfl⟩ := hes e (by simp)
    rw [he] at hx
    cases hx
    rw [hd] at hd'
    cases hd'
    have hm := hset.message
    by_cases h1 : d.refCount = 1
    · rw [if_pos h1] at hm
      cases rest with
      | nil =>
        obtain rfl : t = u := hrem
        exact ⟨fun _ => hm, fun hne => absurd h1.symm hne⟩
      | cons f rest =>
        obtain ⟨v, en', d', hf, hd', -⟩ := hrem
        obtain ⟨y, hy, hyi⟩ := hes f (by simp)
        rw [(hset.entry_some.1 hf).2] at hy
        cases hy
        rw [hyi, hm] at hd'
        cases hd'
    · rw [if_neg h1] at hm
      have hpos := (hc.references _ d hd).2
      have hiff : rest.length + 1 = d.refCount ↔ rest.length = d.refCount - 1 := by omega
      have hsub : d.refCount - (rest.length + 1) = d.refCount - 1 - rest.length := by omega
      have hrc : (d.counted o).refCount = d.refCount - 1 := rfl
      obtain ⟨hnot, hrest⟩ := List.nodup_cons.1 hn
      obtain ⟨hall, hsome⟩ := ih hrem (hset.storeCore hc he hd) hrest hm fun f hf => by
        obtain ⟨y, hy, hyi⟩ := hes f (by simp [hf])
        exact ⟨y, hset.entry_some.2 ⟨fun hfe => hnot (hfe ▸ hf), hy⟩, hyi⟩
      rw [hrc] at hall hsome
      rw [List.length_cons]
      rw [hsub]
      exact ⟨fun hl => hall (hiff.1 hl), fun hl => hsome fun h => hl (hiff.2 h)⟩

end Sys2Proof.Machine
end

section
namespace Sys2Proof.Machine

variable {s t : State}

/-! ### States with the same store -/

/-- What the store law says of a message. -/
def Descriptor.account (d : Descriptor) : MessageClass × BitVec 32 × Nat × Nat × Tally :=
  (d.cls, d.sequence, d.refCount, d.targets, d.tally)

/-- What the store law says of a mailbox. -/
def Mailbox.account (x : Mailbox) :
    MailboxState × PortId × Nat × Nat × Nat × Nat × List EntryId :=
  (x.state, x.owner, x.depth, x.ackWindow, x.retryLimit, x.watermark, x.queue)

/-- Two states whose stores, queues and in-flight lists are the same for the store law. -/
structure SameStore (s t : State) : Prop where
  entries : t.entries = s.entries
  messages : ∀ i, (t.desc i).map Descriptor.account = (s.desc i).map Descriptor.account
  mailboxes : ∀ m, (t.mbx m).account = (s.mbx m).account
  ports : ∀ p, (t.port p).inFlight = (s.port p).inFlight ∧
    (t.port p).prepared = (s.port p).prepared ∧
    ((s.port p).session = .up → (t.port p).session = .up)

theorem SameStore.trans {u : State} (h : SameStore s t) (k : SameStore t u) : SameStore s u where
  entries := k.entries.trans h.entries
  messages i := (k.messages i).trans (h.messages i)
  mailboxes m := (k.mailboxes m).trans (h.mailboxes m)
  ports p := ⟨(k.ports p).1.trans (h.ports p).1, (k.ports p).2.1.trans (h.ports p).2.1,
    fun hu => (k.ports p).2.2 ((h.ports p).2.2 hu)⟩

/-- A change of ports alone that leaves their lists, their prepared offers and every UP session. -/
theorem SameStore.of_ports (he : t.entries = s.entries) (hd : t.descriptors = s.descriptors)
    (hm : t.mailboxes = s.mailboxes)
    (hp : ∀ p, (t.port p).inFlight = (s.port p).inFlight ∧
      (t.port p).prepared = (s.port p).prepared ∧
      ((s.port p).session = .up → (t.port p).session = .up)) : SameStore s t where
  entries := he
  messages i := by
    show (t.descriptors.get i).map _ = _
    rw [hd]; rfl
  mailboxes m := by
    show (t.mailboxes.get m).account = _
    rw [hm]; rfl
  ports := hp

theorem SameStore.of_told (he : t.entries = s.entries) (hd : t.descriptors = s.descriptors)
    (hm : t.mailboxes = s.mailboxes) (hp : ∀ p, ∃ due, Told (s.port p) (t.port p) due) :
    SameStore s t :=
  .of_ports he hd hm fun p => by
    obtain ⟨due, h⟩ := hp p
    exact ⟨h.inFlight, h.prepared, fun hu => h.session.trans hu⟩

/-- One port's record changed, but not its list, its prepared offer or an UP session. -/
theorem SameStore.updPort (s : State) (p : PortId) {f : Port → Port}
    (h : (f (s.port p)).inFlight = (s.port p).inFlight ∧
      (f (s.port p)).prepared = (s.port p).prepared ∧
      ((s.port p).session = .up → (f (s.port p)).session = .up)) :
    SameStore s (s.updPort p f) :=
  .of_ports rfl rfl rfl fun q => by
    by_cases hq : q = p
    · subst hq
      rw [State.port_updPort_self]
      exact h
    · rw [State.port_updPort_ne _ _ hq]
      exact ⟨rfl, rfl, id⟩

/-- One mailbox's record changed, but nothing of it that the store law speaks of. -/
theorem SameStore.updMbx (s : State) (m : MailboxId) {f : Mailbox → Mailbox}
    (h : (f (s.mbx m)).account = (s.mbx m).account) : SameStore s (s.updMbx m f) where
  entries := rfl
  messages _ := rfl
  mailboxes n := by
    rw [State.mbx_updMbx]
    split
    · next hn => subst hn; exact h
    · rfl
  ports _ := ⟨rfl, rfl, id⟩

/-- One message's record changed, but nothing of it that the store law speaks of. -/
theorem SameStore.updDesc (s : State) (i : DescId) {f : Descriptor → Descriptor}
    (h : ∀ x, (f x).account = x.account) : SameStore s (s.updDesc i f) where
  entries := rfl
  messages j := by
    by_cases hj : j = i
    · subst hj
      rw [State.desc_updDesc_self, Option.map_map]
      exact congrArg (fun g => (s.desc j).map g) (funext h)
    · rw [State.desc_updDesc_ne _ _ hj]
  mailboxes _ := rfl
  ports _ := ⟨rfl, rfl, id⟩

section
variable (h : SameStore s t)
include h

theorem SameStore.entry (e : EntryId) : t.entry e = s.entry e := congrArg (·.get e) h.entries

theorem SameStore.mbx (m : MailboxId) : (t.mbx m).state = (s.mbx m).state ∧
    (t.mbx m).owner = (s.mbx m).owner ∧ (t.mbx m).depth = (s.mbx m).depth ∧
    (t.mbx m).ackWindow = (s.mbx m).ackWindow ∧ (t.mbx m).retryLimit = (s.mbx m).retryLimit ∧
    (t.mbx m).watermark = (s.mbx m).watermark ∧ (t.mbx m).queue = (s.mbx m).queue := by
  simpa only [Mailbox.account, Prod.mk.injEq] using h.mailboxes m

theorem SameStore.desc_some {i : DescId} {y : Descriptor} (hy : t.desc i = some y) :
    ∃ x, s.desc i = some x ∧ y.cls = x.cls ∧ y.sequence = x.sequence ∧ y.refCount = x.refCount ∧
      y.targets = x.targets ∧ y.tally = x.tally := by
  have hm := h.messages i
  rw [hy, Option.map_some, eq_comm, Option.map_eq_some_iff] at hm
  obtain ⟨x, hx, ha⟩ := hm
  simp only [Descriptor.account, Prod.mk.injEq] at ha
  exact ⟨x, hx, ha.1.symm, ha.2.1.symm, ha.2.2.1.symm, ha.2.2.2.1.symm, ha.2.2.2.2.symm⟩

theorem SameStore.desc_isSome (i : DescId) : (t.desc i).isSome = (s.desc i).isSome := by
  have := congrArg Option.isSome (h.messages i)
  simpa using this

theorem SameStore.key (e : EntryId) : t.key e = s.key e := by
  unfold State.key
  rw [h.entry]
  cases s.entry e with
  | none => rfl
  | some en =>
    cases ht : t.desc en.descriptor with
    | none =>
      have hs := h.desc_isSome en.descriptor
      rw [ht, Option.isSome_none, eq_comm, Option.isSome_eq_false_iff, Option.isNone_iff_eq_none] at hs
      simp only [ht, hs]
    | some y =>
      obtain ⟨x, hx, hcls, hseq, -⟩ := h.desc_some ht
      simp only [ht, hx, hcls, hseq]

theorem SameStore.isQueued (e : EntryId) : t.isQueued e = s.isQueued e :=
  State.isQueued_congr (h.entry e)

theorem SameStore.queuedIn (m : MailboxId) : t.queuedIn m = s.queuedIn m := by
  unfold State.queuedIn
  rw [(h.mbx m).2.2.2.2.2.2]
  exact List.filter_congr fun e _ => h.isQueued e

/-- The core of the store law speaks of nothing else. -/
theorem SameStore.core (hc : StoreCore s) : StoreCore t := by
  have key := h.key
  have entry := h.entry
  constructor
  case entry =>
    intro e en he
    rw [h.desc_isSome, (h.mbx _).2.2.2.2.2.2]
    exact hc.entry e en (entry e ▸ he)
  case settings =>
    intro m hm
    obtain ⟨hs, -, hdep, hack, hret, hwat, -⟩ := h.mbx m
    rw [hdep, hack, hret, hwat]
    exact hc.settings m (hs ▸ hm)
  case attempts =>
    intro e en he
    rw [(h.mbx _).2.2.2.2.1]
    exact hc.attempts e en (entry e ▸ he)
  case queue =>
    intro m e he
    rw [entry]
    exact hc.queue m e ((h.mbx m).2.2.2.2.2.2 ▸ he)
  case bounded =>
    intro m
    obtain ⟨hs, -, hdep, -, -, -, hq⟩ := h.mbx m
    rw [hs, hdep, hq]
    exact hc.bounded m
  case sorted =>
    intro m
    rw [(h.mbx m).2.2.2.2.2.2]
    simpa only [key] using hc.sorted m
  case references =>
    intro i y hy
    obtain ⟨x, hx, -, -, href, -⟩ := h.desc_some hy
    rw [href]
    have : t.entriesOf i = s.entriesOf i := by unfold State.entriesOf; rw [h.entries]
    rw [this]
    exact hc.references i x hx
  case tally =>
    intro i y hy
    obtain ⟨x, hx, -, -, href, htar, htal⟩ := h.desc_some hy
    rw [href, htar, htal]
    exact hc.tally i x hx
  case distinct =>
    intro e f x y he hf
    rw [entry] at he hf
    exact hc.distinct e f x y he hf
  case flight =>
    intro p e he
    rw [(h.ports p).1] at he
    obtain ⟨en, hen, hq, ho⟩ := hc.flight p e he
    exact ⟨en, (entry e).trans hen, hq, (h.mbx _).2.1.trans ho⟩
  case offered =>
    intro e en he hq
    rw [(h.mbx _).2.1, (h.ports _).1]
    exact hc.offered e en (entry e ▸ he) hq
  case once => intro p; rw [(h.ports p).1]; exact hc.once p
  case prepared =>
    intro p pr hpr
    rw [(h.ports p).1]
    exact hc.prepared p pr ((h.ports p).2.1 ▸ hpr)
  case phase =>
    intro p e en o he hen ho
    rw [(h.ports p).2.1]
    exact hc.phase p e en o ((h.ports p).1 ▸ he) (entry e ▸ hen) ho
  case ids =>
    intro p
    rw [(h.ports p).1, List.map_congr_left fun e _ => State.offerIdOf_congr (entry e)]
    exact hc.ids p
  case dormant =>
    intro m hm e he
    obtain ⟨hs, -, -, -, -, -, hq⟩ := h.mbx m
    rw [h.isQueued]
    exact hc.dormant m (hs ▸ hm) e (hq ▸ he)
  case owner =>
    intro m hm
    rw [(h.mbx m).1] at hm
    rw [(h.mbx m).2.1]
    exact (h.ports _).2.2 (hc.owner m hm)

/-- The store law speaks of nothing else. -/
theorem SameStore.law (hl : StoreLaw s) : StoreLaw t :=
  storeLaw_iff.2 ⟨h.core hl.core, fun m hm => by
    rw [(h.mbx m).2.2.2.2.2.2, h.queuedIn]
    exact hl.closing m ((h.mbx m).1 ▸ hm)⟩

end

/-! ### Mailboxes that change their state -/

/-- What the store law asks of a mailbox record by itself. -/
structure MailboxFits (s : State) (x : Mailbox) : Prop where
  settings : x.state ≠ .free → 1 ≤ x.depth ∧ x.depth ≤ 32 ∧ 1 ≤ x.ackWindow ∧
    x.ackWindow ≤ 10000 ∧ 1 ≤ x.retryLimit ∧ x.retryLimit ≤ 15 ∧ x.watermark ≤ x.depth
  owner : x.state = .opened ∨ x.state = .closing → (s.port x.owner).session = .up

theorem StoreCore.fits (hc : StoreCore s) (m : MailboxId) : MailboxFits s (s.mbx m) :=
  ⟨hc.settings m, hc.owner m⟩

/-- A FREE mailbox fits. -/
theorem mailboxFits_blank (s : State) : MailboxFits s Mailbox.blank :=
  ⟨fun h => absurd rfl h, fun h => by rcases h with h | h <;> cases h⟩

/-- A mailbox without entries may be replaced by any other without entries that fits. -/
theorem StoreCore.replaceEmpty (hc : StoreCore s) {m : MailboxId} {y : Mailbox}
    (hq : (s.mbx m).queue = []) (hy : y.queue = []) (hf : MailboxFits s y) :
    StoreCore (s.updMbx m fun _ => y) := by
  have other : ∀ e en, s.entry e = some en →
      (s.updMbx m fun _ => y).mbx en.mailbox = s.mbx en.mailbox := fun e en he =>
    State.mbx_updMbx_ne _ _ fun hm => by
      have := (hc.entry e en he).2
      rw [hm, hq] at this
      cases this
  have all : ∀ P : Mailbox → Prop, ∀ n, P y → P (s.mbx n) →
      P ((s.updMbx m fun _ => y).mbx n) := fun P n hb hn => by
    rw [State.mbx_updMbx]
    split
    · exact hb
    · exact hn
  refine { hc with
    entry := fun e en he => by rw [other e en he]; exact hc.entry e en he
    settings := fun n => (all (MailboxFits s) n hf (hc.fits n)).settings
    attempts := fun e en he => by rw [other e en he]; exact hc.attempts e en he
    queue := fun n e => all (fun x => e ∈ x.queue → ∃ en, s.entry e = some en ∧ en.mailbox = n) n
      (fun h => by rw [hy] at h; cases h) (hc.queue n e)
    bounded := fun n => all (fun x => x.queue.Nodup ∧ x.queue.length ≤ x.depth ∧
      (x.state = .free → x.queue = [])) n (by simp [hy]) (hc.bounded n)
    sorted := fun n => all
      (fun x => x.queue.Pairwise fun a b => keyAhead (s.key b) (s.key a) = false) n
      (by simp [hy]) (hc.sorted n)
    flight := fun p e he => by
      obtain ⟨en, hen, hx, hown⟩ := hc.flight p e he
      exact ⟨en, hen, hx, by rw [other e en hen]; exact hown⟩
    offered := fun e en he hx => by rw [other e en he]; exact hc.offered e en he hx
    dormant := fun n => all (fun x => x.state = .dormant → ∀ e ∈ x.queue, s.isQueued e = true) n
      (by simp [hy]) (hc.dormant n)
    owner := fun n => (all (MailboxFits s) n hf (hc.fits n)).owner }

/-- A mailbox without entries may become FREE. -/
theorem StoreCore.blank (hc : StoreCore s) {m : MailboxId} (hq : (s.mbx m).queue = []) :
    StoreCore (s.updMbx m fun _ => Mailbox.blank) :=
  hc.replaceEmpty hq rfl (mailboxFits_blank s)

/-- A mailbox may change its state and, with no offer out, its owner. -/
theorem StoreCore.changeState (hc : StoreCore s) {m : MailboxId} {f : Mailbox → Mailbox}
    (hq : (f (s.mbx m)).queue = (s.mbx m).queue) (hd : (f (s.mbx m)).depth = (s.mbx m).depth)
    (hr : (f (s.mbx m)).retryLimit = (s.mbx m).retryLimit)
    (ho : (f (s.mbx m)).owner = (s.mbx m).owner ∨ ∀ e ∈ (s.mbx m).queue, s.isQueued e = true)
    (hfree : (f (s.mbx m)).state ≠ .free)
    (hdor : (f (s.mbx m)).state = .dormant → ∀ e ∈ (s.mbx m).queue, s.isQueued e = true)
    (hf : MailboxFits s (f (s.mbx m))) : StoreCore (s.updMbx m f) := by
  have all : ∀ P : Mailbox → Prop, ∀ n, (n = m → P (f (s.mbx m))) → P (s.mbx n) →
      P ((s.updMbx m f).mbx n) := fun P n hb hn => by
    rw [State.mbx_updMbx]
    split
    · next h => subst h; exact hb rfl
    · exact hn
  have qs : ∀ n, ((s.updMbx m f).mbx n).queue = (s.mbx n).queue := fun n =>
    all (fun x => x.queue = (s.mbx n).queue) n (fun h => by rw [hq, h]) rfl
  have owns : ∀ e en, s.entry e = some en → en.queued = false →
      ((s.updMbx m f).mbx en.mailbox).owner = (s.mbx en.mailbox).owner := fun e en he hx =>
    all (fun x => x.owner = (s.mbx en.mailbox).owner) _ (fun h => by
      rcases ho with ho | ho
      · rw [ho, h]
      · have := ho e (h ▸ (hc.entry e en he).2)
        rw [State.isQueued_some he, hx] at this
        cases this) rfl
  have limit : ∀ n, ((s.updMbx m f).mbx n).retryLimit = (s.mbx n).retryLimit := fun n =>
    all (fun x => x.retryLimit = (s.mbx n).retryLimit) n (fun h => by rw [hr, h]) rfl
  refine { hc with
    entry := fun e en he => by rw [qs]; exact hc.entry e en he
    settings := fun n => (all (MailboxFits s) n (fun _ => hf) (hc.fits n)).settings
    attempts := fun e en he => by rw [limit]; exact hc.attempts e en he
    queue := fun n e he => hc.queue n e (qs n ▸ he)
    bounded := fun n => all (fun x => x.queue.Nodup ∧ x.queue.length ≤ x.depth ∧
      (x.state = .free → x.queue = [])) n (fun h => by
        rw [hq, hd]
        exact ⟨(hc.bounded m).1, (hc.bounded m).2.1, fun h => absurd h hfree⟩) (hc.bounded n)
    sorted := fun n => by rw [qs]; exact hc.sorted n
    flight := fun p e he => by
      obtain ⟨en, hen, hx, hown⟩ := hc.flight p e he
      exact ⟨en, hen, hx, (owns e en hen hx).trans hown⟩
    offered := fun e en he hx => by rw [owns e en he hx]; exact hc.offered e en he hx
    dormant := fun n => all (fun x => x.state = .dormant → ∀ e ∈ x.queue, s.isQueued e = true) n
      (fun _ => by rw [hq]; exact hdor) (hc.dormant n)
    owner := fun n => (all (MailboxFits s) n (fun _ => hf) (hc.fits n)).owner }

end Sys2Proof.Machine
end

section
namespace Sys2Proof.Machine

variable {s t u : State}

/-! ### Closing a mailbox (R30, R31, R43) -/

/-- The field that names a mailbox (R21). -/
theorem mailboxId_eq {id : Byte} {m : MailboxId} (h : id.toNat = m.val) : mailboxId id = some m := by
  have := m.isLt
  rw [mailboxId, dif_pos (by omega)]
  exact congrArg some (Fin.ext h)

/-- The entries of a queue are those of the store (R22). -/
theorem StoreCore.queue_some (hc : StoreCore s) {m : MailboxId} {es : List EntryId}
    (h : ∀ e ∈ es, e ∈ (s.mbx m).queue) : ∀ e ∈ es, ∃ en, s.entry e = some en := fun e he => by
  obtain ⟨en, hen, -⟩ := hc.queue m e (h e he)
  exact ⟨en, hen⟩

theorem SameStore.reach (s : State) (n : Nat) : SameStore s (s.reach n) :=
  .of_ports rfl rfl rfl fun _ => ⟨rfl, rfl, id⟩

theorem SameStore.leaveGroups (s : State) (m : MailboxId) : SameStore s (s.leaveGroups m) :=
  .of_ports rfl rfl rfl fun _ => ⟨rfl, rfl, id⟩

theorem SameStore.raise (s : State) (e : Event) (p : PortId) : SameStore s (s.raise e p) :=
  SameStore.updPort s p (by simp)

/-- The QUEUED entries of a mailbox stand in its queue, each once. -/
theorem StoreCore.queuedIn_nodup (hc : StoreCore s) (m : MailboxId) : (s.queuedIn m).Nodup :=
  (hc.bounded m).1.sublist List.filter_sublist

theorem State.queuedIn_subset (s : State) (m : MailboxId) : ∀ e ∈ s.queuedIn m, e ∈ (s.mbx m).queue :=
  fun _ he => (List.mem_filter.1 he).1

/-- All entries of a DORMANT mailbox are QUEUED (R42). -/
theorem StoreCore.queuedIn_dormant (hc : StoreCore s) {m : MailboxId}
    (h : (s.mbx m).state = .dormant) : s.queuedIn m = (s.mbx m).queue :=
  List.filter_eq_self.2 (hc.dormant m h)

/-- The purge of a DORMANT mailbox (R31, R43). -/
theorem removed_dormant (hc : StoreCore s) {m : MailboxId} (h : (s.mbx m).state = .dormant) :
    Removed s (s.resolveAll (s.queuedIn m) .purged) (s.mbx m).queue .purged := by
  rw [hc.queuedIn_dormant h]
  exact removed_resolveAll hc _ (hc.bounded m).1 (hc.queue_some fun _ h => h)

/-- The state in which the QUEUED entries of an OPEN mailbox are purged (R30). -/
def State.beginClose (s : State) (m : MailboxId) : State :=
  (s.updMbx m fun x => { x with state := .closing, closeCount := 0 }).leaveGroups m

theorem State.mbx_beginClose (s : State) (m : MailboxId) :
    (s.beginClose m).mbx m = { s.mbx m with state := .closing, closeCount := 0 } :=
  State.mbx_updMbx_self _ _ _

theorem State.queuedIn_beginClose (s : State) (m : MailboxId) :
    (s.beginClose m).queuedIn m = (s.mbx m).queue.filter s.isQueued := by
  rw [State.queuedIn, State.mbx_beginClose]
  rfl

theorem StoreCore.beginClose (hc : StoreCore s) {m : MailboxId} (h : (s.mbx m).state = .opened) :
    StoreCore (s.beginClose m) :=
  (SameStore.leaveGroups _ m).core <| hc.changeState rfl rfl rfl (.inl rfl) (fun h => by cases h)
    (fun h => by cases h)
    ⟨fun _ => hc.settings m (by rw [h]; decide), fun _ => hc.owner m (.inl h)⟩

/-- What the purge of an OPEN mailbox leaves of its record (R30, R32). -/
theorem Gone.closed {m : MailboxId} (hg : Gone (s.beginClose m) t ((s.mbx m).queue.filter s.isQueued)
    .purged) :
    (t.mbx m).queue = (s.mbx m).queue.filter (fun e => !s.isQueued e) ∧
      (t.mbx m).closeCount = ((s.mbx m).queue.filter s.isQueued).length ∧
      (t.mbx m).state = .closing ∧ (t.mbx m).owner = (s.mbx m).owner := by
  obtain ⟨a, hm⟩ := hg.mailboxes m
  rw [hm, State.mbx_beginClose]
  refine ⟨List.filter_congr fun e he => ?_, ?_, rfl, rfl⟩
  · by_cases hq : s.isQueued e = true <;> simp [hq, he]
  · simp only [and_self, if_true, Nat.zero_add]
    rw [List.filter_eq_self.2 fun e he => by simpa using (List.mem_filter.1 he).1]

/-- The close of an OPEN mailbox (R30). -/
theorem closeOpen_spec (hc : StoreCore s) {m : MailboxId} (h : (s.mbx m).state = .opened)
    (p : PortId) (seq : Byte) :
    ∃ t, Removed (s.beginClose m) t ((s.mbx m).queue.filter s.isQueued) .purged ∧
      ((∀ e ∈ (s.mbx m).queue, s.isQueued e = true) → s.closeOpen p seq m =
        answer (t.updMbx m fun _ => Mailbox.blank) (.closedMailbox m (s.mbx m).queue.length)) ∧
      (¬ (∀ e ∈ (s.mbx m).queue, s.isQueued e = true) → s.closeOpen p seq m =
        (t.updMbx m fun x => { x with closeReply := some (p, seq) }, .deferred (.close m))) := by
  have hb := hc.beginClose h
  have hr := removed_resolveAll hb .purged (hb.queuedIn_nodup m)
    (hb.queue_some ((s.beginClose m).queuedIn_subset m))
  have hn := hb.queuedIn_nodup m
  rw [State.queuedIn_beginClose] at hr hn
  obtain ⟨hq, hcount, -⟩ := Gone.closed (hr.gone hb hn)
  have ho : s.closeOpen p seq m =
      let u := (s.beginClose m).resolveAll ((s.mbx m).queue.filter s.isQueued) .purged
      if (u.mbx m).queue = [] then
        answer (u.updMbx m fun _ => Mailbox.blank) (.closedMailbox m (u.mbx m).closeCount)
      else (u.updMbx m fun x => { x with closeReply := some (p, seq) }, .deferred (.close m)) := by
    rw [← State.queuedIn_beginClose]
    rfl
  have hempty : (s.mbx m).queue.filter (fun e => !s.isQueued e) = [] ↔
      ∀ e ∈ (s.mbx m).queue, s.isQueued e = true := by
    simp [List.filter_eq_nil_iff]
  refine ⟨_, hr, fun hall => ?_, fun hsome => ?_⟩
  · rw [ho]
    simp only [hq, if_pos (hempty.2 hall), hcount]
    rw [List.filter_eq_self.2 hall]
  · rw [ho]
    simp only [hq]
    rw [if_neg fun hx => hsome (hempty.1 hx)]

/-- The command that closes, with the reply it owes: OPEN. -/
theorem takeCommand_closeOpen (hs : Serves s p) {kind seq : Byte}
    {own : State → State × ReplyState} {m : MailboxId} (hc : StoreCore u)
    (h : (u.mbx m).state = .opened) (hown : own s = u.closeOpen p seq m) :
    ∃ t, Removed (u.beginClose m) t ((u.mbx m).queue.filter u.isQueued) .purged ∧
      s.takeCommand p kind seq own =
        if ∀ e ∈ (u.mbx m).queue, u.isQueued e = true then
          (t.updMbx m fun _ => Mailbox.blank).replied p kind seq .ok
            (.closedMailbox m (u.mbx m).queue.length)
        else
          (t.updMbx m fun x => { x with closeReply := some (p, seq) }).updPort p fun x =>
            { x with replies := x.replies ++ [⟨kind, seq, .deferred (.close m)⟩] } := by
  obtain ⟨t, hr, hall, hsome⟩ := closeOpen_spec hc h p seq
  refine ⟨t, hr, ?_⟩
  rw [takeCommand_serves hs, hown]
  split
  · next hx => rw [hall hx]; rfl
  · next hx => rw [hsome hx]; rfl

/-- The command that closes, with the reply it owes: DORMANT (R31). -/
theorem takeCommand_closeDormant (hs : Serves s p) {kind seq : Byte}
    {own : State → State × ReplyState} {m : MailboxId} (hc : StoreCore u)
    (h : (u.mbx m).state = .dormant) (hown : own s = u.closeDormant m) :
    ∃ t, Removed u t (u.mbx m).queue .purged ∧
      s.takeCommand p kind seq own =
        ((t.leaveGroups m).updMbx m fun _ => Mailbox.blank).replied p kind seq .ok
          (.closedMailbox m (u.mbx m).queue.length) := by
  refine ⟨_, removed_dormant hc h, ?_⟩
  rw [takeCommand_serves hs, hown, ← hc.queuedIn_dormant h]
  rfl

/-- CLOSE of the port's own mailbox is the close of that mailbox (R29). -/
theorem closeOwn_owner {p : PortId} {seq id : Byte} {m : MailboxId} (hid : id.toNat = m.val)
    (ho : (s.mbx m).owner = p) (hf : (s.mbx m).state ≠ .free) :
    s.closeOwn p seq id = s.closeAt p seq m := by
  simp [State.closeOwn, mailboxId_eq hid, ho, hf]

theorem closeAt_opened {p : PortId} {seq : Byte} {m : MailboxId} (h : (s.mbx m).state = .opened) :
    s.closeAt p seq m = s.closeOpen p seq m := by
  simp [State.closeAt, h]

theorem closeAt_dormant {p : PortId} {seq : Byte} {m : MailboxId}
    (h : (s.mbx m).state = .dormant) : s.closeAt p seq m = s.closeDormant m := by
  simp [State.closeAt, h]

/-- Settles O23. -/
theorem closeEndsTheMailbox : Obligations.CloseEndsTheMailbox := by
  intro s p seq id m hs hl hid ho
  have hexec : exec (.close p seq id) s =
      .next (s.takeCommand p Kind.close seq fun t => t.closeOwn p seq id) :=
    (exec_close p seq id s).trans (event_awake _ hs.awake)
  refine ⟨fun h => ?_, fun h => ?_⟩
  · obtain ⟨t, hr, ht⟩ := takeCommand_closeOpen (kind := Kind.close) hs hl.store.core h
      (own := fun t => t.closeOwn p seq id)
      ((closeOwn_owner hid ho (by rw [h]; decide)).trans (closeAt_opened h))
    exact ⟨t, hr, hexec.trans (congrArg _ ht)⟩
  · obtain ⟨t, hr, ht⟩ := takeCommand_closeDormant (kind := Kind.close) hs hl.store.core h
      (own := fun t => t.closeOwn p seq id)
      ((closeOwn_owner hid ho (by rw [h]; decide)).trans (closeAt_dormant h))
    exact ⟨t, hr, hexec.trans (congrArg _ ht)⟩

/-- FORCE_CLOSE by the principal tells the owner and closes (R35, R36). -/
theorem forceCloseOwn_principal {p : PortId} {seq id : Byte} {m : MailboxId}
    (hp : (s.port p).principal = true) (hid : id.toNat = m.val)
    (h : (s.mbx m).state = .opened ∨ (s.mbx m).state = .dormant) :
    ofPrincipal p (fun t => t.forceCloseOwn p seq id) s = (s.tellOwner p m).closeAt p seq m := by
  rw [ofPrincipal_yes hp]
  rcases h with h | h <;> simp [State.forceCloseOwn, mailboxId_eq hid, h]

/-- Settles O24. -/
theorem forceCloseClosesAnyMailbox : Obligations.ForceCloseClosesAnyMailbox := by
  intro s p seq id m hs hl hp hid u hu
  have hu' : u = s.tellOwner p m := hu
  have hexec : exec (.forceClose p seq id) s =
      .next (s.takeCommand p Kind.forceClose seq
        (ofPrincipal p fun t => t.forceCloseOwn p seq id)) :=
    (exec_forceClose p seq id s).trans (event_awake _ hs.awake)
  have hsame : SameStore s u := by
    rw [hu]
    split
    · exact .of_ports rfl rfl rfl fun _ => ⟨rfl, rfl, fun h => h⟩
    · exact SameStore.raise s .mailboxClosed _
  have hm : u.mbx m = s.mbx m := by rw [hu]; split <;> rfl
  have hq : u.isQueued = s.isQueued := funext hsame.isQueued
  have hc := hsame.core hl.store.core
  refine ⟨fun h => ?_, fun h => ?_⟩
  · have hh : (u.mbx m).state = .opened := by rw [hm]; exact h
    obtain ⟨t, hr, ht⟩ := takeCommand_closeOpen (kind := Kind.forceClose) (seq := seq) hs hc hh
      (own := ofPrincipal p fun t => t.forceCloseOwn p seq id)
      ((forceCloseOwn_principal hp hid (.inl h)).trans (by rw [← hu']; exact closeAt_opened hh))
    rw [hm, hq] at hr ht
    exact ⟨t, hr, hexec.trans (congrArg _ ht)⟩
  · have hh : (u.mbx m).state = .dormant := by rw [hm]; exact h
    obtain ⟨t, hr, ht⟩ := takeCommand_closeDormant (kind := Kind.forceClose) (seq := seq) hs hc hh
      (own := ofPrincipal p fun t => t.forceCloseOwn p seq id)
      ((forceCloseOwn_principal hp hid (.inr h)).trans (by rw [← hu']; exact closeAt_dormant hh))
    rw [hm] at hr ht
    exact ⟨t, hr, hexec.trans (congrArg _ ht)⟩

/-- Settles O25. -/
theorem dormancyExpiryFreesTheMailbox : Obligations.DormancyExpiryFreesTheMailbox := by
  intro s m deadline hr hl h hd
  have hc := (SameStore.reach s deadline).core hl.store.core
  refine ⟨_, removed_dormant hc h, ?_⟩
  rw [exec_dormancyExpiry, event_awake _ hr]
  simp only [State.dormancyExpires, h, hd]
  rfl

end Sys2Proof.Machine
end

section
namespace Sys2Proof.Machine

variable {s t u : State}

/-! ### The entries of a message in the order of creation (R59, R93) -/

/-- The QUEUED entries of a message. -/
theorem mem_queuedOf {i : DescId} {e : EntryId} :
    e ∈ s.queuedOf i ↔ ∃ en, s.entry e = some en ∧ en.descriptor = i ∧ en.offer = none := by
  rw [State.queuedOf, Table.mem_indices]
  show (match s.entry e with
    | some en => decide (en.descriptor = i) && en.queued
    | none => false) = true ↔ _
  cases s.entry e with
  | none => simp
  | some en => simp [Entry.queued]

/-- They are listed in rising order. -/
theorem queuedOf_pairwise (s : State) (i : DescId) : (s.queuedOf i).Pairwise (· < ·) :=
  (List.pairwise_lt_finRange 256).sublist List.filter_sublist

theorem queuedOf_nodup (s : State) (i : DescId) : (s.queuedOf i).Nodup :=
  (queuedOf_pairwise s i).imp fun h => ne_of_lt h

/-- The QUEUED entries of a message removed as one cause. -/
theorem removed_queuedOf (hc : StoreCore s) (i : DescId) (o : EntryOutcome) :
    Removed s (s.resolveAll (s.queuedOf i) o) (s.queuedOf i) o :=
  removed_resolveAll hc o (queuedOf_nodup s i) fun e he => by
    obtain ⟨en, hen, -⟩ := mem_queuedOf.1 he
    exact ⟨en, hen⟩

/-- What is left of a message whose QUEUED entries were removed. -/
theorem queuedOf_message (hc : StoreCore s) {i : DescId} {d : Descriptor} (hd : s.desc i = some d)
    (o : EntryOutcome) :
    ((s.queuedOf i).length = d.refCount → (s.resolveAll (s.queuedOf i) o).desc i = none) ∧
    ((s.queuedOf i).length ≠ d.refCount →
      ∃ x, (s.resolveAll (s.queuedOf i) o).desc i = some x ∧
        x.refCount = d.refCount - (s.queuedOf i).length) :=
  (removed_queuedOf hc i o).message hc (queuedOf_nodup s i) hd fun e he => by
    obtain ⟨en, hen, hi, -⟩ := mem_queuedOf.1 he
    exact ⟨en, hen, hi⟩

/-! ### CANCEL (R58 to R61) -/

/-- A tag found names a message of that port, epoch and tag. -/
theorem findTag_some {p : PortId} {epoch tag : BitVec 16} {i : DescId}
    (h : s.findTag p epoch tag = some i) :
    ∃ d, s.desc i = some d ∧ d.senderPort = p ∧ d.senderEpoch = epoch ∧ d.tag = tag := by
  have hi := (Table.first_eq_some h).1
  revert hi
  show (match s.desc i with
    | some d => decide (d.senderPort = p ∧ d.senderEpoch = epoch ∧ d.tag = tag)
    | none => false) = true → _
  cases s.desc i with
  | none => simp
  | some d => simp

/-- A tag is not found exactly when no message of the port and epoch carries it. -/
theorem findTag_none {p : PortId} {epoch tag : BitVec 16} :
    s.findTag p epoch tag = none ↔
      ∀ i d, s.desc i = some d → d.senderPort = p → d.senderEpoch = epoch → d.tag ≠ tag := by
  rw [State.findTag, Table.first_eq_none]
  refine forall_congr' fun i => ?_
  show (match s.desc i with
    | some d => decide (d.senderPort = p ∧ d.senderEpoch = epoch ∧ d.tag = tag)
    | none => false) = false ↔ _
  cases s.desc i with
  | none => simp
  | some d => simp

/-- With distinct tags the message found is the one that carries the tag (R3). -/
theorem findTag_eq (ht : s.tagsDistinct) {p : PortId} {epoch tag : BitVec 16} {i : DescId}
    {d : Descriptor} (hd : s.desc i = some d) (hp : d.senderPort = p) (he : d.senderEpoch = epoch)
    (htag : d.tag = tag) : s.findTag p epoch tag = some i := by
  cases h : s.findTag p epoch tag with
  | none => exact absurd htag (findTag_none.1 h i d hd hp he)
  | some j =>
    obtain ⟨x, hx, hxp, hxe, hxt⟩ := findTag_some h
    rw [ht i j d x hd hx (hp.trans hxp.symm) (he.trans hxe.symm) (htag.trans hxt.symm)]

/-- Settles O30. -/
theorem cancelTakesBackAMessage : Obligations.CancelTakesBackAMessage := by
  intro s p seq tag i d hs hl ht hd hp he htag
  have hc := hl.store.core
  refine ⟨s.queuedOf i, s.resolveAll (s.queuedOf i) .cancelled, queuedOf_pairwise s i,
    fun e => mem_queuedOf, removed_queuedOf hc i _, ?_⟩
  have hown : s.cancelOwn p tag = s.cancelAt i d.sequence := by
    simp only [State.cancelOwn, findTag_eq ht hd hp he htag, hd]
  obtain ⟨hall, hsome⟩ := queuedOf_message hc hd .cancelled
  rw [exec_cancel, event_awake _ hs.awake, takeCommand_serves hs, hown]
  congr 1
  split
  · next hlen =>
    simp only [State.cancelAt, hall hlen]
    rfl
  · next hlen =>
    obtain ⟨x, hx, hxr⟩ := hsome hlen
    simp only [State.cancelAt, hx, State.updDesc, ← hxr]
    rfl

/-- Settles O32. -/
theorem lifetimeExpiryExpiresTheQueued : Obligations.LifetimeExpiryExpiresTheQueued := by
  intro s i d deadline hr hl hd hdl
  have hc := (SameStore.reach s deadline).core hl.store.core
  refine ⟨s.queuedOf i, (s.reach deadline).resolveAll (s.queuedOf i) .expired,
    queuedOf_pairwise s i, fun e => mem_queuedOf, removed_queuedOf hc i _, ?_⟩
  rw [exec_lifetimeExpiry, event_awake _ hr]
  simp only [State.lifetimeExpires, hd, hdl]
  congr 1
  split
  · next hlen =>
    have hnone : ((s.reach deadline).resolveAll (s.queuedOf i) .expired).desc i = none :=
      (queuedOf_message hc (s := s.reach deadline) hd .expired).1 hlen
    show State.setDesc _ _ _ = _
    rw [hnone]
    show State.setDesc _ _ none = _
    rw [← hnone]
    exact congrArg (fun x => { (s.reach deadline).resolveAll (s.queuedOf i) .expired with
      descriptors := x }) (Table.set_get_self _ _)
  · rfl

/-! ### Offers that end (R77 to R82) -/

/-- The answer that names an AWAITING offer finds its entry (R76). -/
theorem findAwaiting_eq (hc : StoreCore s) {p : PortId} {offer : Byte} {e : EntryId} {en : Entry}
    {deadline : Nat} (hf : e ∈ (s.port p).inFlight) (he : s.entry e = some en)
    (ho : en.offer = some ⟨offer, .awaiting deadline⟩) :
    s.findAwaiting p offer = some (e, deadline) := by
  have hfind : s.findOffer p offer = some e := by
    cases h : s.findOffer p offer with
    | none =>
      have := List.find?_eq_none.1 h e hf
      simp [he, ho] at this
    | some f =>
      have hm := List.mem_of_find?_eq_some h
      have hp := List.find?_some h
      obtain ⟨x, hx, -, -⟩ := hc.flight p f hm
      rw [hx] at hp
      have hid : s.offerIdOf f = s.offerIdOf e := by
        simpa [State.offerIdOf, hx, he, ho] using hp
      exact congrArg some (List.inj_on_of_nodup_map (hc.ids p) hm hf hid)
  obtain ⟨desc, mbx, att, off⟩ := en
  cases ho
  simp [State.findAwaiting, hfind, State.ackDeadline, he]

/-- A resolution with the close of a CLOSING mailbox that it empties (R15, R32). -/
theorem resolved_thenClose (hc : StoreCore s) {e : EntryId} {en : Entry} {d : Descriptor}
    (o : EntryOutcome) (he : s.entry e = some en) (hd : s.desc en.descriptor = some d) :
    Resolved s ((s.resolve e o).closeIfEmpty en.mailbox) e en d o := by
  refine ⟨_, settled_resolve o he hd (hc.references _ d hd).2, ?_⟩
  unfold State.closeIfEmpty State.finishClose
  split
  · cases h : ((s.resolve e o).mbx en.mailbox).closeReply <;> simp only [h]
  · rfl

/-- An act on an entry closes the entry's mailbox if it empties it (R15). -/
theorem thenClose_some {e : EntryId} {en : Entry} (he : s.entry e = some en)
    (act : State → State) : s.thenClose e act = (act s).closeIfEmpty en.mailbox := by
  simp only [State.thenClose, he]

/-- The non-accepting resolution table gives an outcome (R82). -/
theorem nonAccepting_resolve {e : EntryId} {en : Entry} {d : Descriptor} {counted : Bool}
    {o : EntryOutcome} (he : s.entry e = some en) (hd : s.desc en.descriptor = some d)
    (ho : nonAcceptingOutcome d (s.mbx en.mailbox) en.attempts counted = some o) :
    s.nonAccepting e counted = s.resolve e o := by
  simp only [State.nonAccepting, he, hd, ho]

/-- The non-accepting resolution table gives none: the entry is QUEUED again (R82, R83). -/
theorem nonAccepting_requeue {e : EntryId} {en : Entry} {d : Descriptor} {counted : Bool}
    (he : s.entry e = some en) (hd : s.desc en.descriptor = some d)
    (ho : nonAcceptingOutcome d (s.mbx en.mailbox) en.attempts counted = none) :
    s.nonAccepting e counted = s.requeued e en := by
  simp only [State.nonAccepting, he, hd, ho, State.requeue, State.requeued, Port.leaveFlight_eq]

/-- An unaccepted offer goes through the table, and its mailbox is closed if that empties it (R82). -/
theorem unaccepted_thenClose (hc : StoreCore s) {e : EntryId} {en : Entry} {d : Descriptor}
    (he : s.entry e = some en) (hd : s.desc en.descriptor = some d) :
    Unaccepted s ((s.nonAccepting e true).closeIfEmpty en.mailbox) e en d := by
  have res : ∀ o, nonAcceptingOutcome d (s.mbx en.mailbox) en.attempts true = some o →
      Resolved s ((s.nonAccepting e true).closeIfEmpty en.mailbox) e en d o := fun o ho => by
    rw [nonAccepting_resolve he hd ho]
    exact resolved_thenClose hc o he hd
  unfold Unaccepted
  split_ifs with h1 h2 h3 h4
  · exact res _ (by simp [nonAcceptingOutcome, h1])
  · exact res _ (by simp [nonAcceptingOutcome, h1, h2])
  · exact res _ (by simp [nonAcceptingOutcome, h1, h2, h3])
  · exact res _ (by simp [nonAcceptingOutcome, h1, h2, h3, h4])
  · rw [nonAccepting_requeue he hd (by simp [nonAcceptingOutcome, h1, h2, h3, h4])]
    exact if_neg fun h => h3 h.1

/-- An answer at an UP port acts on the AWAITING entry that it names (R76). -/
theorem takeAnswer_up {p : PortId} {offer : Byte} {e : EntryId} {deadline : Nat}
    (hu : (s.port p).session = .up) (hf : s.findAwaiting p offer = some (e, deadline))
    (act : EntryId → State) : s.takeAnswer p offer act = act e := by
  simp only [State.takeAnswer, hu, hf]

/-- Settles O34. -/
theorem acceptDelivers : Obligations.AcceptDelivers := by
  intro s p offer e en d deadline hr hl hu hf he ho hd
  have hc := hl.store.core
  refine ⟨_, ?_, resolved_thenClose hc .delivered he hd⟩
  rw [exec_accept, event_awake _ hr, State.accept, takeAnswer_up hu (findAwaiting_eq hc hf he ho),
    thenClose_some he]

/-- Settles O35. -/
theorem declineEndsOrRequeues : Obligations.DeclineEndsOrRequeues := by
  intro s p offer e en d deadline hr hl hu hf he ho hd
  have hc := hl.store.core
  have hfind := findAwaiting_eq hc hf he ho
  refine ⟨⟨_, ?_, resolved_thenClose hc .declined he hd⟩, ⟨_, ?_, unaccepted_thenClose hc he hd⟩⟩
  · rw [exec_decline, event_awake _ hr, State.decline, takeAnswer_up hu hfind]
    exact congrArg _ (thenClose_some he _)
  · rw [exec_decline, event_awake _ hr, State.decline, takeAnswer_up hu hfind]
    exact congrArg _ (thenClose_some he _)

/-- Settles O36. -/
theorem ackExpiryCountsAnAttempt : Obligations.AckExpiryCountsAnAttempt := by
  intro s p offer e en d deadline hr hl hu hf he ho hd
  have hc := (SameStore.reach s deadline).core hl.store.core
  refine ⟨_, ?_, unaccepted_thenClose hc he hd⟩
  rw [exec_ackDeadlineExpiry, event_awake _ hr]
  simp only [State.ackExpires, findAwaiting_eq hl.store.core hf he ho]
  exact congrArg _ (thenClose_some (s := s.reach deadline) he _)

end Sys2Proof.Machine
end

section
namespace Sys2Proof.Machine

variable {s t u w : State}

/-! ### Withdrawal of the offers in flight (R85) -/

/-- The withdrawal of one offer (R85). -/
def State.withdrawOffer (s : State) (e : EntryId) : State :=
  (s.updEntry e fun en => { en with attempts := en.attempts - 1 }).nonAccepting e false

theorem State.withdraw_eq (s : State) (p : PortId) :
    s.withdraw p = (s.port p).inFlight.foldl State.withdrawOffer s := rfl

/-- The withdrawal of one offer is what the statements say of it (R85). -/
theorem withdrawnOffer_withdrawOffer {e : EntryId} {en : Entry} {d : Descriptor}
    (he : s.entry e = some en) (hd : s.desc en.descriptor = some d) (hr : 1 ≤ d.refCount) :
    WithdrawnOffer s (s.withdrawOffer e) e en d := by
  intro low u hlow hu
  have hup : s.updEntry e (fun en => { en with attempts := en.attempts - 1 }) = u := by
    rw [hu, hlow, State.updEntry, he]
    rfl
  have hlow' : u.entry e = some low := by rw [hu]; exact State.entry_setEntry_self _ _ _
  have hdl : u.desc low.descriptor = some d := by rw [hu, hlow]; exact hd
  have hst : (u.mbx low.mailbox).state = (s.mbx en.mailbox).state := by rw [hu, hlow]; rfl
  have res : ∀ o, nonAcceptingOutcome d (u.mbx low.mailbox) low.attempts false = some o →
      Settled u (u.nonAccepting e false) e low d o := fun o ho => by
    rw [nonAccepting_resolve hlow' hdl ho]
    exact settled_resolve o hlow' hdl hr
  rw [State.withdrawOffer, hup]
  split_ifs with h1 h2 h3
  · exact res _ (by simp [nonAcceptingOutcome, h1])
  · exact res _ (by simp [nonAcceptingOutcome, h1, h2])
  · exact res _ (by simp [nonAcceptingOutcome, h1, h2, hst, h3])
  · exact nonAccepting_requeue hlow' hdl (by simp [nonAcceptingOutcome, h1, h2, hst, h3])

/-- A resolution does not depend on the attempts of the entry. -/
theorem Settled.of_setEntry {e : EntryId} {en : Entry} {d : Descriptor} {o : EntryOutcome} {n : Nat}
    (h : Settled (s.setEntry e (some { en with attempts := n })) t e { en with attempts := n } d o) :
    Settled s t e en d o :=
  { h with
    entries := fun f => by
      rw [h.entries]
      split
      · rfl
      · next hf => exact State.entry_setEntry_ne _ _ hf }

/-- The withdrawal of an offer resolves its entry, or puts it back QUEUED with one attempt less in a mailbox
that is not CLOSING. -/
theorem WithdrawnOffer.cases {e : EntryId} {en : Entry} {d : Descriptor}
    (h : WithdrawnOffer s t e en d) :
    (∃ o, Settled s t e en d o) ∨
      ((s.mbx en.mailbox).state ≠ .closing ∧ t = s.putBack e en (en.attempts - 1)) := by
  have hw := h _ _ rfl rfl
  split_ifs at hw with h1 h2 h3
  · exact .inl ⟨_, hw.of_setEntry⟩
  · exact .inl ⟨_, hw.of_setEntry⟩
  · exact .inl ⟨_, hw.of_setEntry⟩
  · exact .inr ⟨h3, hw.trans (s.requeued_setEntry e en _)⟩

/-- What withdrawals of offers of port `p` leave of the store. -/
structure Withdrew (s t : State) (p : PortId) (es : List EntryId) : Prop where
  core : StoreCore t
  offered : s.closingOffered → t.closingOffered
  flight : ∀ q, (t.port q).inFlight = (s.port q).inFlight.filter fun f => decide (f ∉ es)
  mailbox : ∀ m, (t.mbx m).state = (s.mbx m).state ∧ (t.mbx m).owner = (s.mbx m).owner ∧
    ((s.mbx m).owner ≠ p → (t.mbx m).queue = (s.mbx m).queue)

/-- The withdrawal of one offer keeps the core of the store law. -/
theorem WithdrawnOffer.withdrew {e : EntryId} {en : Entry} {d : Descriptor} {p : PortId}
    (h : WithdrawnOffer s t e en d) (hc : StoreCore s) (hf : e ∈ (s.port p).inFlight)
    (he : s.entry e = some en) (hd : s.desc en.descriptor = some d) : Withdrew s t p [e] := by
  obtain ⟨en', he', hq, ho⟩ := hc.flight p e hf
  rw [he] at he'
  cases he'
  have hone : ∀ l : List EntryId, without l e = l.filter fun f => decide (f ∉ [e]) := fun l =>
    List.filter_congr fun f _ => by simp
  rcases h.cases with ⟨o, hs⟩ | ⟨hcl, rfl⟩
  · refine ⟨hs.storeCore hc he hd, hs.closingOffered hc he, fun q => ?_, fun m => ?_⟩
    · rw [(hs.port hc he q).2.1, hone]
    · obtain ⟨a, hm⟩ := hs.mbx hc he m
      rw [hm]
      refine ⟨rfl, rfl, fun hne => without_of_not_mem fun hmem => hne ?_⟩
      rw [(hc.mem_queue he m).1 hmem]
      exact ho
  · have hatt := hc.attempts e en he
    rw [hq] at hatt
    simp only [Bool.false_eq_true, if_false] at hatt
    refine ⟨hc.putBack he (by omega), fun hco => State.closingOffered_putBack hc he hco hcl,
      fun q => ?_, fun m => ⟨rfl, rfl, fun _ => rfl⟩⟩
    rw [(hc.port_withoutOffer he q (s.port_putBack e en _ q)).2.1, hone]

/-- The offers of a port withdrawn in turn are what the statements say of them, and keep the core of the
store law. -/
theorem withdrawn_foldl (hc : StoreCore s) (p : PortId) {es : List EntryId} (hn : es.Nodup)
    (hes : ∀ e ∈ es, e ∈ (s.port p).inFlight) :
    Withdrawn s (es.foldl State.withdrawOffer s) es ∧
      Withdrew s (es.foldl State.withdrawOffer s) p es := by
  induction es generalizing s with
  | nil => exact ⟨rfl, hc, id, by simp, fun m => ⟨rfl, rfl, fun _ => rfl⟩⟩
  | cons e rest ih =>
    obtain ⟨hnot, hrest⟩ := List.nodup_cons.1 hn
    have hf := hes e (by simp)
    obtain ⟨en, he, -, -⟩ := hc.flight p e hf
    obtain ⟨d, hd, hr⟩ := hc.message he
    have hw := withdrawnOffer_withdrawOffer he hd hr
    have h1 := hw.withdrew hc hf he hd
    obtain ⟨hwr, hw2⟩ := ih h1.core hrest fun f hfr => by
      rw [h1.flight]
      have hne : f ≠ e := fun hfe => hnot (hfe ▸ hfr)
      simpa [hne] using hes f (by simp [hfr])
    refine ⟨⟨_, en, d, he, hd, hw, hwr⟩, hw2.core, fun hco => hw2.offered (h1.offered hco),
      fun q => ?_, fun m => ?_⟩
    · rw [List.foldl_cons, hw2.flight, h1.flight, List.filter_filter]
      exact List.filter_congr fun f _ => by
        by_cases hfe : f = e <;> by_cases hfr : f ∈ rest <;> simp [hfe, hfr]
    · obtain ⟨s1, o1, q1⟩ := h1.mailbox m
      obtain ⟨s2, o2, q2⟩ := hw2.mailbox m
      exact ⟨s2.trans s1, o2.trans o1, fun hne => (q2 (o1 ▸ hne)).trans (q1 hne)⟩

/-- The withdrawal of a port's offers (R85). -/
theorem withdrawn_withdraw (hc : StoreCore s) (p : PortId) :
    Withdrawn s (s.withdraw p) (s.port p).inFlight ∧
      Withdrew s (s.withdraw p) p (s.port p).inFlight :=
  withdrawn_foldl hc p (hc.once p) fun _ h => h

/-- Afterwards the port has no offer in flight. -/
theorem Withdrew.empty {p : PortId} (h : Withdrew s t p (s.port p).inFlight) :
    (t.port p).inFlight = [] := by
  rw [h.flight, List.filter_eq_nil_iff]
  simp

/-! ### Reply slots in a session end -/

/-- The completion of a deferred reply leaves the replies in transmission. -/
theorem Port.complete_sending (x : Port) (a : Awaited) (res : Results) :
    (x.complete a res).replies.filter (·.isSending) = x.replies.filter (·.isSending) := by
  unfold Port.complete
  split
  · rfl
  · simp only [List.filter_append, List.filter_filter]
    rw [show ([_] : List Reply).filter (·.isSending) = [] from rfl, List.append_nil]
    refine List.filter_congr fun r _ => ?_
    by_cases hs : r.state = .sending
    · simp [Reply.isSending, Reply.awaits, hs]
    · simp [Reply.isSending, hs]

/-! ### The mailboxes of a port that leaves UP (R41) -/

/-- Two states that differ in ports and mailboxes at most. -/
def OnlyPortsBoxes (s t : State) : Prop := t = { s with mailboxes := t.mailboxes, ports := t.ports }

theorem OnlyPortsBoxes.trans (h : OnlyPortsBoxes s t) (k : OnlyPortsBoxes t u) :
    OnlyPortsBoxes s u := by
  unfold OnlyPortsBoxes at *
  rw [k, h]

/-- The record of a mailbox when its owner, port `p`, leaves UP (R41). -/
def Mailbox.ownerGone (x : Mailbox) (p : PortId) (limit now : Nat) : Mailbox :=
  if x.owner = p ∧ x.state = .opened then
    { x with
      state := .dormant
      dormancyDeadline := if limit = 0 then none else some (now + limit * 1000) }
  else if x.owner = p ∧ x.state = .closing then Mailbox.blank
  else x

/-- Port `q` when mailbox `m`, its record `x`, loses its owner `p`: a close reply owed to it is completed
(R41). -/
def Port.ownerGone (y : Port) (q : PortId) (m : MailboxId) (x : Mailbox) (p : PortId) : Port :=
  if x.owner = p ∧ x.state = .closing ∧ x.closeReply.map (·.1) = some q then
    y.complete (.close m) (.closedMailbox m x.closeCount)
  else y

/-- The end of a close frees the mailbox and completes the reply (R32). -/
theorem State.finishClose_spec (s : State) (m : MailboxId) :
    OnlyPortsBoxes s (s.finishClose m) ∧
    (∀ n, (s.finishClose m).mbx n = if n = m then Mailbox.blank else s.mbx n) ∧
    ∀ q, (s.finishClose m).port q =
      if (s.mbx m).closeReply.map (·.1) = some q then
        (s.port q).complete (.close m) (.closedMailbox m (s.mbx m).closeCount)
      else s.port q := by
  unfold State.finishClose
  cases h : (s.mbx m).closeReply with
  | none =>
    simp only [h]
    exact ⟨rfl, fun n => State.mbx_updMbx _ _ _ _, fun q => by simp⟩
  | some r =>
    simp only [h]
    refine ⟨rfl, fun n => State.mbx_updMbx _ _ _ _, fun q => ?_⟩
    rw [State.port_updPort]
    by_cases hq : q = r.1
    · simp [hq]
    · simp [hq, Ne.symm hq]

/-- What the loss of its owner does to one mailbox (R41). -/
theorem State.ownerGone_spec (s : State) (p : PortId) (m : MailboxId) :
    OnlyPortsBoxes s (s.ownerGone p m) ∧
    (∀ n, (s.ownerGone p m).mbx n =
      if n = m then (s.mbx n).ownerGone p s.dormancyLimit s.now else s.mbx n) ∧
    ∀ q, (s.ownerGone p m).port q = (s.port q).ownerGone q m (s.mbx m) p := by
  have same : ∀ {x : Mailbox}, (s.mbx m).ownerGone p s.dormancyLimit s.now = s.mbx m →
      ∀ n, s.mbx n = if n = m then (s.mbx n).ownerGone p s.dormancyLimit s.now else s.mbx n :=
    fun h n => by
      split
      · next hn => rw [hn, h]
      · rfl
  unfold State.ownerGone
  by_cases ho : (s.mbx m).owner = p
  · simp only [ho, if_true]
    cases hs : (s.mbx m).state with
    | opened =>
      simp only
      refine ⟨rfl, fun n => ?_, fun q => by simp [Port.ownerGone, hs]⟩
      rw [State.mbx_updMbx]
      by_cases hn : n = m <;> simp [hn, Mailbox.ownerGone, ho, hs]
    | closing =>
      obtain ⟨hp, hm, hq⟩ := s.finishClose_spec m
      refine ⟨hp, fun n => (hm n).trans ?_, fun q => (hq q).trans (by simp [Port.ownerGone, ho, hs])⟩
      by_cases hn : n = m <;> simp [hn, Mailbox.ownerGone, ho, hs]
    | free =>
      exact ⟨rfl, same (x := s.mbx m) (by simp [Mailbox.ownerGone, hs]),
        fun q => by simp [Port.ownerGone, hs]⟩
    | dormant =>
      exact ⟨rfl, same (x := s.mbx m) (by simp [Mailbox.ownerGone, hs]),
        fun q => by simp [Port.ownerGone, hs]⟩
  · simp only [ho, if_false]
    exact ⟨rfl, same (x := s.mbx m) (by simp [Mailbox.ownerGone, ho]),
      fun q => by simp [Port.ownerGone, ho]⟩

/-- The loss of their owner, mailbox by mailbox (R41). -/
theorem ownerGone_foldl (s : State) (p : PortId) {ms : List MailboxId} (hn : ms.Nodup) :
    OnlyPortsBoxes s (ms.foldl (fun t m => t.ownerGone p m) s) ∧
    (∀ n, (ms.foldl (fun t m => t.ownerGone p m) s).mbx n =
      if n ∈ ms then (s.mbx n).ownerGone p s.dormancyLimit s.now else s.mbx n) ∧
    ∀ q, (ms.foldl (fun t m => t.ownerGone p m) s).port q =
      ms.foldl (fun y m => y.ownerGone q m (s.mbx m) p) (s.port q) := by
  induction ms generalizing s with
  | nil => exact ⟨rfl, by simp, fun q => rfl⟩
  | cons m rest ih =>
    obtain ⟨hnot, hrest⟩ := List.nodup_cons.1 hn
    obtain ⟨h1, hm1, hq1⟩ := s.ownerGone_spec p m
    obtain ⟨h2, hm2, hq2⟩ := ih (s.ownerGone p m) hrest
    have hlim : (s.ownerGone p m).dormancyLimit = s.dormancyLimit := by rw [h1]
    have hnow : (s.ownerGone p m).now = s.now := by rw [h1]
    have hother : ∀ n ∈ rest, (s.ownerGone p m).mbx n = s.mbx n := fun n hr => by
      have hne : n ≠ m := fun h => hnot (h ▸ hr)
      rw [hm1, if_neg hne]
    refine ⟨h1.trans h2, fun n => (hm2 n).trans ?_, fun q => (hq2 q).trans ?_⟩
    · rw [hlim, hnow]
      by_cases hr : n ∈ rest
      · rw [if_pos hr, hother n hr, if_pos (List.mem_cons_of_mem _ hr)]
      · rw [if_neg hr, hm1]
        by_cases hnm : n = m <;> simp [hnm, hr]
    · rw [hq1, List.foldl_cons]
      exact List.foldl_ext _ _ _ fun y n hr => by rw [hother n hr]

/-- The loss of its owner changes a port's replies alone, and none that is in transmission. -/
theorem Port.ownerGone_foldl_eq (x : Port) (q p : PortId) (s : State) (ms : List MailboxId) :
    ms.foldl (fun y m => y.ownerGone q m (s.mbx m) p) x =
      { x with replies := (ms.foldl (fun y m => y.ownerGone q m (s.mbx m) p) x).replies } ∧
    (ms.foldl (fun y m => y.ownerGone q m (s.mbx m) p) x).replies.filter (·.isSending) =
      x.replies.filter (·.isSending) := by
  induction ms generalizing x with
  | nil => exact ⟨rfl, rfl⟩
  | cons m rest ih =>
    rw [List.foldl_cons]
    obtain ⟨heq, hsend⟩ := ih (x.ownerGone q m (s.mbx m) p)
    have h1 : x.ownerGone q m (s.mbx m) p =
        { x with replies := (x.ownerGone q m (s.mbx m) p).replies } := by
      unfold Port.ownerGone
      split
      · exact Port.complete_eq _ _ _
      · rfl
    have h2 : (x.ownerGone q m (s.mbx m) p).replies.filter (·.isSending) =
        x.replies.filter (·.isSending) := by
      unfold Port.ownerGone
      split
      · exact Port.complete_sending _ _ _
      · rfl
    refine ⟨?_, hsend.trans h2⟩
    rw [heq, h1]

/-! ### Steps 2 to 7 of a session end (R132) -/

/-- Steps 2 to 6 of a session end (R132). -/
def State.quit (w : State) (p : PortId) (c : EndCause) : State :=
  ((w.ownerGoneAll p).forgetCloseReplies p).updPort p fun x => (x.discardLink c).leaveUp c

/-- Steps 2 to 7 of a session end (R132). -/
def State.leaveUp (w : State) (p : PortId) (c : EndCause) : State := (w.quit p c).raisePortDown p

/-- Port `q` when every mailbox of port `p` has lost its owner: the close replies owed to it completed in
ascending order of mailbox id (R41). -/
def State.closesEnded (w : State) (p q : PortId) : Port :=
  (List.finRange 32).foldl (fun y m => y.ownerGone q m (w.mbx m) p) (w.port q)

theorem State.endSession_eq (s : State) (p : PortId) (c : EndCause) :
    s.endSession p c = (s.withdraw p).leaveUp p c := rfl

/-- The ended port's own record (R132 steps 3 to 6, R133). -/
theorem Port.discardLink_leaveUp (x : Port) (c : EndCause) :
    (x.discardLink c).leaveUp c =
      { x with
        session := if c = .lineBreak then .down else .announced
        inFlight := [], prepared := none, reports := [], flags := 0#7, enables := 0#7,
        noticeOutstanding := false, noticeQueued := false, window := none,
        replies := if c = .lineBreak then [] else x.replies.filter (·.isSending)
        tx :=
          match x.tx with
          | .sending (.offer _) => .stopped
          | .sending f => if c = .lineBreak then .stopped else .sending f
          | .idle => .idle
          | .stopped => .stopped } := by
  have htx : (x.discardLink c).tx =
      match x.tx with
      | .sending (.offer _) => .stopped
      | .sending f => if c = .lineBreak then .stopped else .sending f
      | .idle => .idle
      | .stopped => .stopped := by
    cases c <;> cases h : x.tx with
    | sending f =>
      cases f <;> simp [Port.discardLink, Transmitter.stop, Transmitter.stopOffer,
        Transmitter.isOffer, h]
    | idle => simp [Port.discardLink, Transmitter.stop, Transmitter.stopOffer,
        Transmitter.isOffer, h]
    | stopped => simp [Port.discardLink, Transmitter.stop, Transmitter.stopOffer,
        Transmitter.isOffer, h]
  rw [Port.leaveUp, htx]
  cases c <;> rfl

end Sys2Proof.Machine
end

section
namespace Sys2Proof.Machine

variable {s t u w : State}

/-- A raise of PORT_DOWN at the principal touches ports alone (R136). -/
theorem State.raisePortDown_port (s : State) (p q : PortId) :
    (s.raisePortDown p).port q =
      if (s.port q).principal = true ∧ (s.port p).principal = false then
        (s.port q).raise .portDown
      else s.port q := by
  unfold State.raisePortDown
  cases hp : (s.port p).principal with
  | true => simp
  | false =>
    simp only [Bool.false_eq_true, if_false, and_true, State.port_allPorts]

theorem State.raisePortDown_only (s : State) (p : PortId) : OnlyPortsBoxes s (s.raisePortDown p) := by
  unfold State.raisePortDown
  split <;> rfl

theorem State.raisePortDown_mailboxes (s : State) (p : PortId) :
    (s.raisePortDown p).mailboxes = s.mailboxes := by
  unfold State.raisePortDown
  split <;> rfl

theorem OnlyPortsBoxes.tables (h : OnlyPortsBoxes s t) : t.entries = s.entries ∧
    t.descriptors = s.descriptors ∧ t.buffers = s.buffers ∧ t.poolArmed = s.poolArmed ∧
    t.groups = s.groups ∧ t.mem = s.mem ∧ t.registers = s.registers := by
  rw [h]
  exact ⟨rfl, rfl, rfl, rfl, rfl, rfl, rfl⟩

theorem State.forget_only (v : State) (p : PortId) (f : Port → Port) :
    OnlyPortsBoxes v ((v.forgetCloseReplies p).updPort p f) := rfl

/-- Steps 2 to 7 of a session end touch ports and mailboxes alone. -/
theorem State.leaveUp_only (w : State) (p : PortId) (c : EndCause) :
    OnlyPortsBoxes w (w.leaveUp p c) :=
  ((ownerGone_foldl w p (List.nodup_finRange 32)).1.trans (State.forget_only _ _ _)).trans
    (State.raisePortDown_only _ _)

/-- The mailboxes after a session end (R33, R41). -/
theorem State.mbx_leaveUp (w : State) (p : PortId) (c : EndCause) (m : MailboxId) :
    (w.leaveUp p c).mbx m =
      { (w.mbx m).ownerGone p w.dormancyLimit w.now with
        closeReply := ((w.mbx m).ownerGone p w.dormancyLimit w.now).closeReply.filter
          fun r => decide (r.1 ≠ p) } := by
  have h : (w.ownerGoneAll p).mbx m = _ :=
    ((ownerGone_foldl w p (List.nodup_finRange 32)).2.1 m).trans (if_pos (List.mem_finRange m))
  have hb : (w.leaveUp p c).mbx m = ((w.ownerGoneAll p).forgetCloseReplies p).mbx m :=
    congrArg (·.get m) (State.raisePortDown_mailboxes _ p)
  rw [hb, State.mbx_forgetCloseReplies, h]

/-- The ports before PORT_DOWN is raised. -/
theorem State.port_quit (w : State) (p : PortId) (c : EndCause) (q : PortId) :
    (w.quit p c).port q =
      if q = p then ((w.closesEnded p q).discardLink c).leaveUp c else w.closesEnded p q := by
  have h : (w.ownerGoneAll p).port q = w.closesEnded p q :=
    (ownerGone_foldl w p (List.nodup_finRange 32)).2.2 q
  rw [State.quit, State.port_updPort, State.port_forgetCloseReplies, h]

/-- Ended closes change replies alone. -/
theorem State.closesEnded_eq (w : State) (p q : PortId) :
    w.closesEnded p q = { w.port q with replies := (w.closesEnded p q).replies } :=
  (Port.ownerGone_foldl_eq _ _ _ _ _).1

/-- Ended closes leave the replies in transmission. -/
theorem State.closesEnded_sending (w : State) (p q : PortId) :
    (w.closesEnded p q).replies.filter (·.isSending) = (w.port q).replies.filter (·.isSending) :=
  (Port.ownerGone_foldl_eq _ _ _ _ _).2

/-- The ports after a session end. -/
theorem State.port_leaveUp_self (w : State) (p : PortId) (c : EndCause) :
    (w.leaveUp p c).port p = ((w.closesEnded p p).discardLink c).leaveUp c := by
  have hq : ((w.quit p c).port p).session ≠ .up := by
    rw [State.port_quit, if_pos rfl, Port.discardLink_leaveUp]
    cases c <;> simp
  rw [State.leaveUp, State.raisePortDown_port, Port.raise_quiet _ hq, ite_self, State.port_quit,
    if_pos rfl]

theorem State.port_leaveUp_ne (w : State) {p q : PortId} (c : EndCause) (h : q ≠ p) :
    (w.leaveUp p c).port q =
      if (w.port q).principal = true ∧ (w.port p).principal = false then
        (w.closesEnded p q).raise .portDown
      else w.closesEnded p q := by
  have hp : ((w.quit p c).port p).principal = (w.port p).principal := by
    rw [State.port_quit, if_pos rfl, Port.discardLink_leaveUp, State.closesEnded_eq]
  have hq : ((w.quit p c).port q).principal = (w.port q).principal := by
    rw [State.port_quit, if_neg h, State.closesEnded_eq]
  rw [State.leaveUp, State.raisePortDown_port, hp, hq, State.port_quit, if_neg h]

/-- Steps 2 to 7 of a session end are what the statements say of them (R132). -/
theorem afterWithdrawal (w : State) (p : PortId) (c : EndCause) :
    AfterWithdrawal w (w.leaveUp p c) p c := by
  obtain ⟨hent, hdesc, hbuf, hpool, hgrp, hmem, hreg⟩ := (w.leaveUp_only p c).tables
  constructor
  case port =>
    rw [State.port_leaveUp_self, Port.discardLink_leaveUp, State.closesEnded_sending,
      State.closesEnded_eq] <;> rfl
  case mailboxes =>
    intro m x hx
    rw [State.mbx_leaveUp, hx]
    unfold Mailbox.ownerGone
    by_cases h1 : (w.mbx m).owner = p ∧ (w.mbx m).state = .opened
    · rw [if_pos h1, if_pos h1]
    · by_cases h2 : (w.mbx m).owner = p ∧ (w.mbx m).state = .closing
      · rw [if_neg h1, if_pos h2, if_neg h1, if_pos h2]
        rfl
      · rw [if_neg h1, if_neg h2, if_neg h1, if_neg h2]
  case others =>
    intro q hq
    have heq := w.closesEnded_eq p q
    have hnone : Told (w.port q) (w.closesEnded p q) fun _ => False :=
      (Told.refl (w.port q)).of_aside rfl (by rw [heq]; rfl) rfl (by rw [heq]) rfl (by rw [heq]) rfl
        (by rw [heq])
    rw [State.port_leaveUp_ne w c hq]
    split
    · next h => exact (hnone.trans (told_raise _ .portDown)).congr fun ev => by simp [h]
    · next h => exact hnone.congr fun ev => by simp [h]
  case reports =>
    intro q hq
    rw [State.port_leaveUp_ne w c hq, w.closesEnded_eq p q]
    split <;> simp
  case replies =>
    intro q hq
    have h : ((w.leaveUp p c).port q).replies = (w.closesEnded p q).replies := by
      rw [State.port_leaveUp_ne w c hq]
      split <;> simp
    exact h
  case entries => exact hent
  case descriptors => exact hdesc
  case buffers => exact hbuf
  case pool => exact hpool
  case groups => exact hgrp
  case mem => exact hmem
  case registers => exact hreg

/-- A session end is taken whole as the statements say it (R132). -/
theorem sessionEnded_endSession (hc : StoreCore s) (p : PortId) (c : EndCause) :
    SessionEnded s (s.endSession p c) p c :=
  ⟨s.withdraw p, (withdrawn_withdraw hc p).1, afterWithdrawal _ p c⟩

/-! ### A session end keeps the store law -/

/-- The mailboxes that the port does not own keep everything the store law speaks of; those that it owns are
DORMANT or FREE. -/
theorem AfterWithdrawal.mbx {p : PortId} {c : EndCause} (h : AfterWithdrawal w t p c)
    (m : MailboxId) :
    ((w.mbx m).owner = p ∧ (w.mbx m).state = .opened ∧ (t.mbx m).state = .dormant ∧
      (t.mbx m).queue = (w.mbx m).queue ∧ (t.mbx m).depth = (w.mbx m).depth ∧
      (t.mbx m).retryLimit = (w.mbx m).retryLimit ∧ (t.mbx m).ackWindow = (w.mbx m).ackWindow ∧
      (t.mbx m).watermark = (w.mbx m).watermark ∧ (t.mbx m).owner = (w.mbx m).owner) ∨
    ((w.mbx m).owner = p ∧ (w.mbx m).state = .closing ∧ t.mbx m = Mailbox.blank) ∨
    (((w.mbx m).owner = p → (w.mbx m).state = .free ∨ (w.mbx m).state = .dormant) ∧
      (t.mbx m).account = (w.mbx m).account) := by
  have hm := h.mailboxes m _ rfl
  by_cases h1 : (w.mbx m).owner = p ∧ (w.mbx m).state = .opened
  · refine .inl ⟨h1.1, h1.2, ?_⟩
    rw [hm, if_pos h1]
    exact ⟨rfl, rfl, rfl, rfl, rfl, rfl, rfl⟩
  by_cases h2 : (w.mbx m).owner = p ∧ (w.mbx m).state = .closing
  · exact .inr (.inl ⟨h2.1, h2.2, by rw [hm, if_neg h1, if_pos h2]⟩)
  · refine .inr (.inr ⟨fun ho => ?_, by rw [hm, if_neg h1, if_neg h2]; rfl⟩)
    cases hs : (w.mbx m).state with
    | free => exact .inl rfl
    | dormant => exact .inr rfl
    | opened => exact absurd ⟨ho, hs⟩ h1
    | closing => exact absurd ⟨ho, hs⟩ h2

/-- With no offer in flight at the port, steps 2 to 7 of its session end bring the store law. -/
theorem AfterWithdrawal.storeLaw {p : PortId} {c : EndCause} (h : AfterWithdrawal w t p c)
    (hc : StoreCore w) (hco : w.closingOffered) (hf : (w.port p).inFlight = [])
    (hother : ∀ m, (w.mbx m).owner ≠ p → (w.mbx m).state = .closing → (w.mbx m).queue ≠ []) :
    StoreLaw t := by
  have hent : ∀ e, t.entry e = w.entry e := fun e => congrArg (·.get e) h.entries
  have hdesc : ∀ i, t.desc i = w.desc i := fun i => congrArg (·.get i) h.descriptors
  have hqd : ∀ e, t.isQueued e = w.isQueued e := fun e => State.isQueued_congr (hent e)
  have hkey : ∀ e, t.key e = w.key e := fun e => by
    unfold State.key
    rw [hent]
    cases w.entry e with
    | none => rfl
    | some en => simp only [hdesc]
  have mine : ∀ m e, (w.mbx m).owner = p → e ∈ (w.mbx m).queue → w.isQueued e = true :=
    fun m e ho he => by
      obtain ⟨en, hen, rfl⟩ := hc.queue m e he
      rw [State.isQueued_some hen]
      by_contra hq
      have := hc.offered e en hen (by simpa using hq)
      rw [ho, hf] at this
      cases this
  have gone : ∀ m, (w.mbx m).owner = p → (w.mbx m).state = .closing → (w.mbx m).queue = [] :=
    fun m ho hs => List.eq_nil_iff_forall_not_mem.2 fun e he => by
      have := State.queuedIn_eq_nil.1 (hco m hs) e he
      rw [mine m e ho he] at this
      cases this
  have acc : ∀ m, (t.mbx m).account = (w.mbx m).account → (t.mbx m).state = (w.mbx m).state ∧
      (t.mbx m).owner = (w.mbx m).owner ∧ (t.mbx m).depth = (w.mbx m).depth ∧
      (t.mbx m).ackWindow = (w.mbx m).ackWindow ∧ (t.mbx m).retryLimit = (w.mbx m).retryLimit ∧
      (t.mbx m).watermark = (w.mbx m).watermark ∧ (t.mbx m).queue = (w.mbx m).queue :=
    fun m hm => by simpa only [Mailbox.account, Prod.mk.injEq] using hm
  have hq : ∀ m, (t.mbx m).queue = (w.mbx m).queue := fun m => by
    rcases h.mbx m with ⟨-, -, -, hq, -⟩ | ⟨ho, hs, hb⟩ | ⟨-, ha⟩
    · exact hq
    · rw [hb, gone m ho hs]; rfl
    · exact (acc m ha).2.2.2.2.2.2
  have used : ∀ m e, e ∈ (w.mbx m).queue → (t.mbx m).owner = (w.mbx m).owner ∧
      (t.mbx m).retryLimit = (w.mbx m).retryLimit := fun m e he => by
    rcases h.mbx m with ⟨-, -, -, -, -, hr, -, -, ho⟩ | ⟨ho, hs, -⟩ | ⟨-, ha⟩
    · exact ⟨ho, hr⟩
    · rw [gone m ho hs] at he; cases he
    · exact ⟨(acc m ha).2.1, (acc m ha).2.2.2.2.1⟩
  have hprep : (w.port p).prepared = none := by
    cases hpr : (w.port p).prepared with
    | none => rfl
    | some pr =>
      have := hc.prepared p pr hpr
      rw [hf] at this
      cases this
  have hfl : ∀ q, (t.port q).inFlight = (w.port q).inFlight ∧
      (t.port q).prepared = (w.port q).prepared := fun q => by
    by_cases hqp : q = p
    · subst hqp
      rw [h.port, hf, hprep]
      exact ⟨rfl, rfl⟩
    · exact ⟨(h.others q hqp).inFlight, (h.others q hqp).prepared⟩
  have kept : ∀ m, (t.mbx m).state = .opened ∨ (t.mbx m).state = .closing →
      (t.mbx m).account = (w.mbx m).account ∧ (w.mbx m).owner ≠ p := fun m hs => by
    rcases h.mbx m with ⟨-, -, hd, -⟩ | ⟨-, -, hb⟩ | ⟨ho, ha⟩
    · rw [hd] at hs; simp at hs
    · rw [hb] at hs; simp [Mailbox.blank] at hs
    · refine ⟨ha, fun hp => ?_⟩
      rw [(acc m ha).1] at hs
      rcases ho hp with hw | hw <;> rw [hw] at hs <;> simp at hs
  refine storeLaw_iff.2 ⟨?_, fun m hs => ?_⟩
  · constructor
    case entry =>
      intro e en he
      rw [hdesc, hq]
      exact hc.entry e en (hent e ▸ he)
    case settings =>
      intro m hs
      rcases h.mbx m with ⟨-, ho, -, -, hdp, hr, ha, hw, -⟩ | ⟨-, -, hb⟩ | ⟨-, ha⟩
      · rw [hdp, hr, ha, hw]
        exact hc.settings m (by rw [ho]; decide)
      · exact absurd (congrArg Mailbox.state hb) hs
      · obtain ⟨hst, -, hdp, ha, hr, hw, -⟩ := acc m ha
        rw [hdp, hr, ha, hw]
        exact hc.settings m (hst ▸ hs)
    case attempts =>
      intro e en he
      rw [hent] at he
      rw [(used _ e (hc.entry e en he).2).2]
      exact hc.attempts e en he
    case queue =>
      intro m e he
      rw [hent]
      exact hc.queue m e (hq m ▸ he)
    case bounded =>
      intro m
      obtain ⟨hn, hl, hfree⟩ := hc.bounded m
      rcases h.mbx m with ⟨-, -, hd, hqm, hdp, -⟩ | ⟨-, -, hb⟩ | ⟨-, ha⟩
      · rw [hqm, hdp, hd]
        exact ⟨hn, hl, fun h => by cases h⟩
      · rw [hb]
        exact ⟨List.nodup_nil, le_rfl, fun _ => rfl⟩
      · obtain ⟨hst, -, hdp, -, -, -, hqm⟩ := acc m ha
        rw [hqm, hdp, hst]
        exact ⟨hn, hl, hfree⟩
    case sorted =>
      intro m
      rw [hq]
      simpa only [hkey] using hc.sorted m
    case references =>
      intro i d hd
      have : t.entriesOf i = w.entriesOf i := by unfold State.entriesOf; rw [h.entries]
      rw [this]
      exact hc.references i d (hdesc i ▸ hd)
    case tally => exact fun i d hd => hc.tally i d (hdesc i ▸ hd)
    case distinct =>
      intro e f x y he hf'
      rw [hent] at he hf'
      exact hc.distinct e f x y he hf'
    case flight =>
      intro q e he
      rw [(hfl q).1] at he
      obtain ⟨en, hen, hx, ho⟩ := hc.flight q e he
      exact ⟨en, (hent e).trans hen, hx, ((used _ e (hc.entry e en hen).2).1).trans ho⟩
    case offered =>
      intro e en he hx
      rw [hent] at he
      rw [(hfl _).1, (used _ e (hc.entry e en he).2).1]
      exact hc.offered e en he hx
    case once => intro q; rw [(hfl q).1]; exact hc.once q
    case prepared =>
      intro q pr hpr
      rw [(hfl q).1]
      exact hc.prepared q pr ((hfl q).2 ▸ hpr)
    case phase =>
      intro q e en o he hen ho
      rw [(hfl q).2]
      exact hc.phase q e en o ((hfl q).1 ▸ he) (hent e ▸ hen) ho
    case ids =>
      intro q
      rw [(hfl q).1, List.map_congr_left fun e _ => State.offerIdOf_congr (hent e)]
      exact hc.ids q
    case dormant =>
      intro m hs e he
      rw [hq] at he
      rw [hqd]
      rcases h.mbx m with ⟨ho, -⟩ | ⟨ho, hcl, -⟩ | ⟨-, ha⟩
      · exact mine m e ho he
      · exact mine m e ho he
      · exact hc.dormant m ((acc m ha).1 ▸ hs) e he
    case owner =>
      intro m hs
      obtain ⟨ha, hne⟩ := kept m hs
      rw [(acc m ha).1] at hs
      rw [(acc m ha).2.1, (h.others _ hne).session]
      exact hc.owner m hs
  · obtain ⟨ha, hne⟩ := kept m (.inr hs)
    rw [(acc m ha).1] at hs
    refine ⟨by rw [hq]; exact hother m hne hs, ?_⟩
    rw [State.queuedIn_eq_nil, hq]
    intro e he
    rw [hqd]
    exact State.queuedIn_eq_nil.1 (hco m hs) e he

/-- A session end keeps the store law. -/
theorem StoreLaw.endSession (h : StoreLaw s) (p : PortId) (c : EndCause) :
    StoreLaw (s.endSession p c) := by
  have hw := (withdrawn_withdraw h.core p).2
  refine (afterWithdrawal (s.withdraw p) p c).storeLaw hw.core (hw.offered h.closingOffered)
    hw.empty fun m ho hs => ?_
  obtain ⟨hst, hown, hq⟩ := hw.mailbox m
  rw [hq (hown ▸ ho)]
  exact (h.closing m (hst ▸ hs)).1

end Sys2Proof.Machine
end

section
namespace Sys2Proof.Machine

variable {s t u : State}

/-! ### Queue order (R23) -/

/-- What stands ahead of an entry stands ahead of all that does not stand ahead of that entry. -/
theorem keyAhead_trans {a b c : Nat × Nat} (h : keyAhead a b = true) (k : keyAhead c b = false) :
    keyAhead a c = true := by
  simp only [keyAhead, decide_eq_true_eq, decide_eq_false_iff_not] at *
  omega

/-- An entry put in its place in a sorted queue (R23). -/
theorem insertByKey_spec (s : State) (e : EntryId) {queue : List EntryId}
    (hs : queue.Pairwise fun a b => keyAhead (s.key b) (s.key a) = false) :
    ∃ ahead behind, queue = ahead ++ behind ∧ s.insertByKey e queue = ahead ++ e :: behind ∧
      (∀ x ∈ ahead, keyAhead (s.key e) (s.key x) = false) ∧
      ∀ x ∈ behind, keyAhead (s.key e) (s.key x) = true := by
  induction queue with
  | nil => exact ⟨[], [], rfl, rfl, by simp, by simp⟩
  | cons x rest ih =>
    obtain ⟨hx, hrest⟩ := List.pairwise_cons.1 hs
    cases hk : keyAhead (s.key e) (s.key x) with
    | true =>
      refine ⟨[], x :: rest, rfl, by simp [State.insertByKey, hk], by simp, fun y hy => ?_⟩
      rcases List.mem_cons.1 hy with rfl | hy
      · exact hk
      · exact keyAhead_trans hk (hx y hy)
    | false =>
      obtain ⟨a, b, hq, hi, ha, hb⟩ := ih hrest
      refine ⟨x :: a, b, by rw [hq]; rfl, by simp [State.insertByKey, hk, hi], fun y hy => ?_, hb⟩
      rcases List.mem_cons.1 hy with rfl | hy
      · exact hk
      · exact ha y hy

/-! ### One entry a target (R11 steps 4 and 5) -/

/-- The entry made for a target. -/
def newEntry (i : DescId) (m : MailboxId) : Entry :=
  { descriptor := i, mailbox := m, attempts := 0, offer := none }

/-- The state with a QUEUED entry for a target in its queue, before level arming is evaluated. -/
def State.enqueue (s : State) (e : EntryId) (i : DescId) (m : MailboxId) : State :=
  (s.setEntry e (some (newEntry i m))).updMbx m fun x =>
    { x with queue := (s.setEntry e (some (newEntry i m))).insertByKey e x.queue }

theorem State.addEntry_some {e : EntryId} (h : s.entries.first (·.isNone) = some e) (i : DescId)
    (m : MailboxId) : s.addEntry i m = (s.enqueue e i m).evalLevel m := by
  simp only [State.addEntry, h]
  rfl

/-- An entry is FREE where the store says so. -/
theorem first_free_entry {e : EntryId} (h : s.entries.first (·.isNone) = some e) :
    s.entry e = none := Option.isNone_iff_eq_none.1 (Table.first_eq_some h).1

/-- With a FREE entry left one is found. -/
theorem exists_free_entry (h : 1 ≤ s.freeEntries) : ∃ e, s.entries.first (·.isNone) = some e := by
  cases hf : s.entries.first (·.isNone) with
  | some e => exact ⟨e, rfl⟩
  | none =>
    rw [State.freeEntries, Table.count_eq_length_indices] at h
    have : s.entries.indices (·.isNone) = [] := List.eq_nil_iff_forall_not_mem.2 fun e he => by
      rw [Table.mem_indices, Table.first_eq_none.1 hf e] at he
      cases he
    rw [this] at h
    cases h

/-- What one more QUEUED entry, and the entries for a list of targets, leave of the state. -/
structure Enqueued (s t : State) (i : DescId) (ts : List MailboxId) (es : List EntryId) : Prop where
  one : es.length = ts.length ∧ es.Nodup
  created : ∀ (k : Nat) m e, ts[k]? = some m → es[k]? = some e →
    s.entry e = none ∧ t.entry e = some (newEntry i m)
  entries : ∀ e, e ∉ es → t.entry e = s.entry e
  queued : ∀ (k : Nat) m e, ts[k]? = some m → es[k]? = some e →
    ∃ ahead behind, (s.mbx m).queue = ahead ++ behind ∧
      (∀ x ∈ ahead, keyAhead (t.key e) (t.key x) = false) ∧
      (∀ x ∈ behind, keyAhead (t.key e) (t.key x) = true) ∧
      t.mbx m = { s.mbx m with
        queue := ahead ++ e :: behind
        armed := (s.mbx m).armedAt ((s.mbx m).queue.length + 1) }
  mailboxes : ∀ m, m ∉ ts → t.mbx m = s.mbx m
  ports : ∀ q, Told (s.port q) (t.port q) fun ev =>
    ev = .level ∧ ∃ m ∈ ts, (s.mbx m).owner = q ∧ (s.mbx m).levelDue ((s.mbx m).queue.length + 1)
  kept : ∀ q, (t.port q).reports = (s.port q).reports ∧ (t.port q).replies = (s.port q).replies ∧
    (t.port q).lostReports = (s.port q).lostReports
  descriptors : t.descriptors = s.descriptors
  buffers : t.buffers = s.buffers
  poolArmed : t.poolArmed = s.poolArmed
  groups : t.groups = s.groups
  mem : t.mem = s.mem
  registers : t.registers = s.registers

/-- The key of an entry that two states share with its message. -/
theorem State.key_congr {e : EntryId} (he : t.entry e = s.entry e)
    (hd : t.descriptors = s.descriptors) : t.key e = s.key e := by
  have hdesc : ∀ i, t.desc i = s.desc i := fun i => congrArg (·.get i) hd
  unfold State.key
  rw [he]
  cases s.entry e with
  | none => rfl
  | some en => simp only [hdesc]

/-- Queues whose entries are all in the store, in their order. -/
structure QueueFits (s : State) (m : MailboxId) : Prop where
  some : ∀ e ∈ (s.mbx m).queue, s.entry e ≠ none
  sorted : (s.mbx m).queue.Pairwise fun a b => keyAhead (s.key b) (s.key a) = false

/-- One entry made for a target and put in its queue (R11, R23, R26). -/
theorem enqueued_addEntry {e : EntryId} (h : s.entries.first (·.isNone) = some e) (i : DescId)
    {m : MailboxId} (hq : QueueFits s m) : Enqueued s (s.addEntry i m) i [m] [e] := by
  have hfree := first_free_entry h
  have hadd := State.addEntry_some h i m
  have hent : ∀ f, (s.addEntry i m).entry f = if f = e then some (newEntry i m) else s.entry f :=
    fun f => by
      rw [hadd, State.entry_evalLevel]
      exact Table.get_set _ _ _ _
  have hdesc : (s.addEntry i m).descriptors = s.descriptors := by
    rw [hadd, State.evalLevel_descriptors]; rfl
  have hmbx : ∀ n, (s.enqueue e i m).mbx n = if n = m then
      { s.mbx n with queue := (s.setEntry e (some (newEntry i m))).insertByKey e (s.mbx n).queue }
      else s.mbx n := fun n => State.mbx_updMbx _ _ _ _
  have hne : ∀ x ∈ (s.mbx m).queue, x ≠ e := fun x hx hxe => hq.some x hx (hxe ▸ hfree)
  have hset : ∀ x ∈ (s.mbx m).queue, (s.setEntry e (some (newEntry i m))).key x = s.key x :=
    fun x hx => State.key_congr (State.entry_setEntry_ne _ _ (hne x hx)) rfl
  have hkey : ∀ x, (s.addEntry i m).key x = (s.setEntry e (some (newEntry i m))).key x :=
    fun x => State.key_congr ((hent x).trans (Table.get_set _ _ _ _).symm) hdesc
  obtain ⟨a, b, hqab, hins, ha, hb⟩ := insertByKey_spec (s.setEntry e (some (newEntry i m))) e
    (queue := (s.mbx m).queue) (hq.sorted.imp_of_mem fun {x y} hx hy hxy => by
      rw [hset x hx, hset y hy]; exact hxy)
  have hlen : ((s.setEntry e (some (newEntry i m))).insertByKey e (s.mbx m).queue).length =
      (s.mbx m).queue.length + 1 := by
    rw [hins, hqab]
    simp only [List.length_append, List.length_cons]
    omega
  have only : ∀ (k : Nat) n f, [m][k]? = some n → [e][k]? = some f → n = m ∧ f = e :=
    fun k n f hn hf => by
      cases k with
      | zero => simp at hn hf; exact ⟨hn.symm, hf.symm⟩
      | succ k => simp at hn
  constructor
  case one => simp
  case created =>
    intro k n f hn hf
    obtain ⟨rfl, rfl⟩ := only k n f hn hf
    exact ⟨hfree, by rw [hent, if_pos rfl]⟩
  case entries =>
    intro f hf
    rw [hent, if_neg (by simpa using hf)]
  case queued =>
    intro k n f hn hf
    obtain ⟨rfl, rfl⟩ := only k n f hn hf
    refine ⟨a, b, hqab, by simpa only [hkey] using ha, by simpa only [hkey] using hb, ?_⟩
    rw [hadd, State.mbx_evalLevel, if_pos rfl, hmbx, if_pos rfl, hlen, hins]
    rfl
  case mailboxes =>
    intro n hn
    have hnm : n ≠ m := by simpa using hn
    rw [hadd, State.mbx_evalLevel, if_neg hnm, hmbx, if_neg hnm]
  case ports =>
    intro q
    rw [hadd]
    have ht := State.told_evalLevel (s.enqueue e i m) m q
    rw [hmbx, if_pos rfl, hlen] at ht
    exact ht.congr fun ev => by
      constructor
      · rintro ⟨rfl, rfl, hd⟩; exact ⟨rfl, m, by simp, rfl, hd⟩
      · rintro ⟨rfl, n, hn, rfl, hd⟩
        obtain rfl : n = m := by simpa using hn
        exact ⟨rfl, rfl, hd⟩
  case kept =>
    intro q
    rw [hadd]
    rcases State.port_evalLevel_cases (s.enqueue e i m) m q with h | h <;> rw [h]
    · exact ⟨rfl, rfl, rfl⟩
    · exact ⟨Port.raise_reports _ _, Port.raise_replies _ _, Port.raise_lostReports _ _⟩
  case descriptors => exact hdesc
  case buffers => rw [hadd, State.evalLevel_buffers]; rfl
  case poolArmed => rw [hadd, State.evalLevel_poolArmed]; rfl
  case groups => rw [hadd, State.evalLevel_groups]; rfl
  case mem => rw [hadd, State.evalLevel_mem]; rfl
  case registers => rw [hadd, State.registers_evalLevel]; rfl

/-- A new entry lowers the free-entry count by one. -/
theorem freeEntries_addEntry {e : EntryId} (h : s.entries.first (·.isNone) = some e) (i : DescId)
    (m : MailboxId) : (s.addEntry i m).freeEntries + 1 = s.freeEntries := by
  have hc := Table.count_set s.entries e (some (newEntry i m)) (·.isNone)
  have he : s.entries.get e = none := first_free_entry h
  have ht : (s.addEntry i m).entries = s.entries.set e (some (newEntry i m)) := by
    rw [State.addEntry_some h, State.evalLevel_entries]; rfl
  rw [he] at hc
  simpa [State.freeEntries, ht] using hc

/-- Entries for one more target. -/
theorem Enqueued.cons {i : DescId} {m : MailboxId} {e : EntryId} {ts : List MailboxId}
    {es : List EntryId} (h : Enqueued s u i [m] [e]) (k : Enqueued u t i ts es) (hm : m ∉ ts)
    (hq : QueueFits s m) : Enqueued s t i (m :: ts) (e :: es) := by
  have hnew : u.entry e = some (newEntry i m) := (h.created 0 m e rfl rfl).2
  have hfree : s.entry e = none := (h.created 0 m e rfl rfl).1
  have hes : ∀ f ∈ es, u.entry f = none := fun f hf => by
    obtain ⟨j, hj⟩ := List.mem_iff_getElem?.1 hf
    have hlt : j < ts.length := by
      rw [← k.one.1]; exact (List.getElem?_eq_some_iff.1 hj).1
    exact (k.created j _ f (List.getElem?_eq_getElem hlt) hj).1
  have hnot : e ∉ es := fun hc => by rw [hes e hc] at hnew; cases hnew
  have hrest : ∀ (j : Nat) n, ts[j]? = some n → n ≠ m := fun j n hn hnm =>
    hm (hnm ▸ List.mem_of_getElem? hn)
  have hbox : ∀ n, n ≠ m → u.mbx n = s.mbx n := fun n hn => h.mailboxes n (by simpa using hn)
  have hkey : ∀ x, x ∉ es → t.key x = u.key x := fun x hx =>
    State.key_congr (k.entries x hx) k.descriptors
  constructor
  case one => exact ⟨by simp [k.one.1], List.nodup_cons.2 ⟨hnot, k.one.2⟩⟩
  case created =>
    intro j n f hn hf
    cases j with
    | zero =>
      simp only [List.getElem?_cons_zero, Option.some.injEq] at hn hf
      subst hn hf
      exact ⟨hfree, by rw [k.entries _ hnot, hnew]⟩
    | succ j =>
      rw [List.getElem?_cons_succ] at hn hf
      obtain ⟨h1, h2⟩ := k.created j n f hn hf
      have hfe : f ≠ e := fun hfe => by rw [hfe, hnew] at h1; cases h1
      exact ⟨(h.entries f (by simpa using hfe)).symm.trans h1, h2⟩
  case entries =>
    intro f hf
    obtain ⟨hfe, hfes⟩ : f ≠ e ∧ f ∉ es := by simpa using hf
    rw [k.entries f hfes, h.entries f (by simpa using hfe)]
  case queued =>
    intro j n f hn hf
    cases j with
    | zero =>
      simp only [List.getElem?_cons_zero, Option.some.injEq] at hn hf
      subst hn hf
      obtain ⟨a, b, hab, ha, hb, hmbx⟩ := h.queued 0 m e rfl rfl
      have old : ∀ x ∈ (s.mbx m).queue, x ∉ es := fun x hx hxe => by
        have h1 := hes x hxe
        have hxe : x ≠ e := fun hh => hq.some x hx (hh ▸ hfree)
        rw [h.entries x (by simpa using hxe)] at h1
        exact hq.some x hx h1
      refine ⟨a, b, hab, fun x hx => ?_, fun x hx => ?_, by rw [k.mailboxes m hm, hmbx]⟩
      · rw [hkey e hnot, hkey x (old x (by rw [hab]; simp [hx]))]
        exact ha x hx
      · rw [hkey e hnot, hkey x (old x (by rw [hab]; simp [hx]))]
        exact hb x hx
    | succ j =>
      rw [List.getElem?_cons_succ] at hn hf
      have := k.queued j n f hn hf
      rwa [hbox n (hrest j n hn)] at this
  case mailboxes =>
    intro n hn
    obtain ⟨hnm, hnts⟩ : n ≠ m ∧ n ∉ ts := by simpa using hn
    rw [k.mailboxes n hnts, hbox n hnm]
  case ports =>
    intro q
    refine ((h.ports q).trans (k.ports q)).congr fun ev => ?_
    constructor
    · rintro (⟨rfl, n, hn, ho⟩ | ⟨rfl, n, hn, ho⟩)
      · exact ⟨rfl, n, by simp [List.mem_singleton.1 hn], ho⟩
      · have hnm : n ≠ m := fun hh => hm (hh ▸ hn)
        rw [hbox n hnm] at ho
        exact ⟨rfl, n, by simp [hn], ho⟩
    · rintro ⟨rfl, n, hn, ho⟩
      rcases List.mem_cons.1 hn with rfl | hn
      · exact .inl ⟨rfl, n, by simp, ho⟩
      · have hnm : n ≠ m := fun hh => hm (hh ▸ hn)
        exact .inr ⟨rfl, n, hn, by rw [hbox n hnm]; exact ho⟩
  case kept =>
    intro q
    obtain ⟨a, b, c⟩ := h.kept q
    obtain ⟨a', b', c'⟩ := k.kept q
    exact ⟨a'.trans a, b'.trans b, c'.trans c⟩
  case descriptors => exact k.descriptors.trans h.descriptors
  case buffers => exact k.buffers.trans h.buffers
  case poolArmed => exact k.poolArmed.trans h.poolArmed
  case groups => exact k.groups.trans h.groups
  case mem => exact k.mem.trans h.mem
  case registers => exact k.registers.trans h.registers

/-- A queue that an insertion elsewhere leaves alone still fits. -/
theorem Enqueued.queueFits {i : DescId} {m n : MailboxId} {e : EntryId}
    (h : Enqueued s u i [m] [e]) (hn : n ≠ m) (hq : QueueFits s n) : QueueFits u n := by
  have hb := h.mailboxes n (by simpa using hn)
  have hfree := (h.created 0 m e rfl rfl).1
  have hne : ∀ x ∈ (s.mbx n).queue, u.entry x = s.entry x := fun x hx =>
    h.entries x (by simpa using fun hxe : x = e => hq.some x hx (hxe ▸ hfree))
  refine ⟨fun x hx => ?_, ?_⟩
  · rw [hb] at hx
    rw [hne x hx]
    exact hq.some x hx
  · rw [hb]
    exact hq.sorted.imp_of_mem fun {x y} hx hy hxy => by
      rw [State.key_congr (hne x hx) h.descriptors, State.key_congr (hne y hy) h.descriptors]
      exact hxy

/-- The entries for all the targets of a message (R11 steps 4 and 5). -/
theorem enqueued_foldl (i : DescId) {ts : List MailboxId} (hn : ts.Nodup)
    (hfree : ts.length ≤ s.freeEntries) (hq : ∀ m ∈ ts, QueueFits s m) :
    ∃ es, Enqueued s (ts.foldl (fun u m => u.addEntry i m) s) i ts es := by
  induction ts generalizing s with
  | nil =>
    exact ⟨[], ⟨by simp, by simp, by simp, by simp, by simp,
      fun q => Told.none _ (by simp), by simp, rfl, rfl, rfl, rfl, rfl, rfl⟩⟩
  | cons m rest ih =>
    obtain ⟨hnot, hrest⟩ := List.nodup_cons.1 hn
    rw [List.length_cons] at hfree
    obtain ⟨e, he⟩ := exists_free_entry (s := s) (by omega)
    have h1 := enqueued_addEntry he i (hq m (by simp))
    have hcount := freeEntries_addEntry he i m
    obtain ⟨es, hes⟩ := ih (s := s.addEntry i m) hrest (by omega) fun n hnr =>
      h1.queueFits (fun h => hnot (h ▸ hnr)) (hq n (by simp [hnr]))
    exact ⟨e :: es, h1.cons hes hnot (hq m (by simp))⟩

end Sys2Proof.Machine
end

section
namespace Sys2Proof.Machine

variable {s t u : State}

/-! ### Allocation (R10, R11) -/

/-- The buffers that an allocation takes are free, distinct and as many as are asked for (R6). -/
theorem takeable_spec {n : Nat} (h : n ≤ s.freeBuffers) :
    (s.takeable n).Nodup ∧ (s.takeable n).length = n ∧
      ∀ b ∈ s.takeable n, s.buffers.get b = .free := by
  rw [State.freeBuffers, Table.count_eq_length_indices] at h
  refine ⟨?_, ?_, fun b hb => ?_⟩
  · exact ((List.nodup_finRange 384).sublist List.filter_sublist).sublist (List.take_sublist _ _)
  · simp [State.takeable, Nat.min_eq_left h]
  · simpa using List.mem_of_mem_take hb

theorem buffersFor_eq (n : Nat) : buffersFor n = (n + 63) / 64 := rfl

/-- The state of an accepted SEND before its entries are made (R11 steps 1 to 3). -/
def State.takeIn (s : State) (p : PortId) (f : SendFields) (targets skipped : Nat) (i : DescId) :
    State :=
  (({ s with
    arrival := s.arrival + 1#32
    mem := s.mem.writePayload (s.takeable (buffersFor f.payload.length)) 0 f.payload } :
      State).moveBuffers (s.takeable (buffersFor f.payload.length)) .inUse).setDesc i
    (some (s.newDescriptor p f (s.takeable (buffersFor f.payload.length)) targets skipped))

theorem State.allocate_some {i : DescId} (h : s.descriptors.first (·.isNone) = some i) (p : PortId)
    (f : SendFields) (ts : List MailboxId) (skipped : Nat) :
    s.allocate p f ts skipped =
      (ts.foldl (fun u m => u.addEntry i m) (s.takeIn p f ts.length skipped i)).evalPool := by
  simp only [State.allocate, h]
  rfl

/-- A descriptor is FREE where the store says so. -/
theorem first_free_desc {i : DescId} (h : s.descriptors.first (·.isNone) = some i) :
    s.desc i = none := Option.isNone_iff_eq_none.1 (Table.first_eq_some h).1

/-- The free-descriptor count is 0 exactly when every descriptor is LIVE (R1). -/
theorem freeDescriptors_eq_zero : s.freeDescriptors = 0 ↔ ∀ i, s.desc i ≠ none := by
  rw [State.freeDescriptors, Table.count_eq_length_indices, List.length_eq_zero_iff,
    List.eq_nil_iff_forall_not_mem]
  refine forall_congr' fun i => ?_
  rw [Table.mem_indices, Option.isNone_iff_eq_none]
  rfl

/-- With a FREE descriptor left one is found. -/
theorem exists_free_desc (h : s.freeDescriptors ≠ 0) :
    ∃ i, s.descriptors.first (·.isNone) = some i := by
  cases hf : s.descriptors.first (·.isNone) with
  | some i => exact ⟨i, rfl⟩
  | none =>
    refine absurd (freeDescriptors_eq_zero.2 fun i hi => ?_) h
    have := Table.first_eq_none.1 hf i
    rw [show s.descriptors.get i = none from hi] at this
    cases this

/-- An entry of the store keeps its key when a FREE descriptor is taken. -/
theorem StoreCore.key_takeIn (hc : StoreCore s) {i : DescId} (hi : s.desc i = none) (p : PortId)
    (f : SendFields) (n k : Nat) {e : EntryId} (he : s.entry e ≠ none) :
    (s.takeIn p f n k i).key e = s.key e := by
  obtain ⟨en, hen⟩ := Option.ne_none_iff_exists'.1 he
  obtain ⟨d, hd, -⟩ := hc.message hen
  have hne : en.descriptor ≠ i := fun h => by rw [h, hi] at hd; cases hd
  have hd' : (s.takeIn p f n k i).desc en.descriptor = some d :=
    (State.desc_setDesc_ne _ _ hne).trans hd
  rw [State.key_some (s := s.takeIn p f n k i) hen hd', State.key_some hen hd]

/-- A FREE descriptor taken leaves every queue in its order. -/
theorem StoreCore.queueFits_takeIn (hc : StoreCore s) {i : DescId} (hi : s.desc i = none) (p : PortId)
    (f : SendFields) (n k : Nat) (m : MailboxId) : QueueFits (s.takeIn p f n k i) m := by
  have hsome : ∀ e ∈ (s.mbx m).queue, s.entry e ≠ none := fun e he => by
    obtain ⟨en, hen, -⟩ := hc.queue m e he
    rw [hen]
    exact nofun
  refine ⟨hsome, (hc.sorted m).imp_of_mem fun {x y} hx hy hxy => ?_⟩
  rw [hc.key_takeIn hi p f _ _ (hsome x hx), hc.key_takeIn hi p f _ _ (hsome y hy)]
  exact hxy

/-- An accepted SEND is what the statements say of it (R11). -/
theorem accepted_allocate (hc : StoreCore s) (hm : s.mem.wf = true) {i : DescId}
    (hi : s.descriptors.first (·.isNone) = some i) (p : PortId) {f : SendFields}
    {ts : List MailboxId} (skipped : Nat) (hn : ts.Nodup) (hents : ts.length ≤ s.freeEntries)
    (hbufs : (f.payload.length + 63) / 64 ≤ s.freeBuffers) :
    ∃ bufs es, Accepted s (s.allocate p f ts skipped) p f ts skipped i bufs es := by
  have hfree := first_free_desc hi
  obtain ⟨hbn, hbl, hbf⟩ := takeable_spec (s := s) (n := buffersFor f.payload.length) hbufs
  have hfits : ∀ m ∈ ts, QueueFits (s.takeIn p f ts.length skipped i) m := fun m _ =>
    hc.queueFits_takeIn hfree p f _ skipped m
  obtain ⟨es, hes⟩ := enqueued_foldl (s := s.takeIn p f ts.length skipped i) i hn hents hfits
  have hreg := hes.registers
  have hlow := State.lowMark_of_registers hreg
  have hbuf : ∀ b, (s.allocate p f ts skipped).buffers.get b =
      if b ∈ s.takeable (buffersFor f.payload.length) then .inUse else s.buffers.get b := fun b => by
    rw [State.allocate_some hi, State.evalPool_buffers, hes.buffers]
    exact State.get_moveBuffers _ _ _ _
  have hmem : (s.allocate p f ts skipped).mem =
      s.mem.writePayload (s.takeable (buffersFor f.payload.length)) 0 f.payload := by
    rw [State.allocate_some hi, State.evalPool_mem, hes.mem]
    rfl
  have hdesc : ∀ j, (s.allocate p f ts skipped).desc j =
      (s.takeIn p f ts.length skipped i).desc j := fun j => by
    rw [State.allocate_some hi, State.desc_evalPool]
    exact congrArg (·.get j) hes.descriptors
  have hent : ∀ e, (s.allocate p f ts skipped).entry e =
      (ts.foldl (fun u m => u.addEntry i m) (s.takeIn p f ts.length skipped i)).entry e := fun e => by
    rw [State.allocate_some hi, State.entry_evalPool]
  have hmbx : ∀ m, (s.allocate p f ts skipped).mbx m =
      (ts.foldl (fun u m => u.addEntry i m) (s.takeIn p f ts.length skipped i)).mbx m := fun m => by
    rw [State.allocate_some hi, State.mbx_evalPool]
  have hkey : ∀ e, (s.allocate p f ts skipped).key e =
      (ts.foldl (fun u m => u.addEntry i m) (s.takeIn p f ts.length skipped i)).key e := fun e =>
    State.key_congr (hent e) (by rw [State.allocate_some hi, State.evalPool_descriptors])
  refine ⟨s.takeable (buffersFor f.payload.length), es, ?_⟩
  constructor
  case free => exact hfree
  case message => rw [hdesc]; exact State.desc_setDesc_self _ _ _
  case messages => exact fun j hj => (hdesc j).trans (State.desc_setDesc_ne _ _ hj)
  case count => exact ⟨hbn, hbl⟩
  case taken => exact fun b hb => ⟨hbf b hb, (hbuf b).trans (if_pos hb)⟩
  case buffers => exact fun b hb => (hbuf b).trans (if_neg hb)
  case payload =>
    rw [hmem]
    refine Memory.readPayload_writePayload hbn f.payload hm ?_
    rw [hbl, buffersFor_eq]
    simp only [Config.bufferBytes]
    omega
  case mem =>
    intro a ha
    rw [hmem]
    exact Memory.read_writePayload_ne _ 0 f.payload a hm fun k hk h =>
      ha k hk (by rw [← h, Nat.zero_add])
  case one => exact hes.one
  case created => exact fun k m e hk he => by rw [hent]; exact hes.created k m e hk he
  case entries => exact fun e he => (hent e).trans (hes.entries e he)
  case queued => exact fun k m e hk he => by simp only [hkey, hmbx]; exact hes.queued k m e hk he
  case mailboxes => exact fun m hmt => (hmbx m).trans (hes.mailboxes m hmt)
  case pool =>
    rw [State.allocate_some hi, State.evalPool_armed, State.freeBuffers_evalPool, hlow]
    rfl
  case ports =>
    intro q
    rw [State.allocate_some hi, State.freeBuffers_evalPool]
    refine ((hes.ports q).trans (State.told_evalPool _ q)).congr fun ev => ?_
    rw [hes.poolArmed, hlow]
    rfl
  case kept =>
    intro q
    obtain ⟨a, b, c⟩ := hes.kept q
    rw [State.allocate_some hi]
    rcases State.port_evalPool_cases
      (ts.foldl (fun u m => u.addEntry i m) (s.takeIn p f ts.length skipped i)) q with h | h <;>
      rw [h]
    · exact ⟨a, b, c⟩
    · exact ⟨(Port.raise_reports _ _).trans a, (Port.raise_replies _ _).trans b,
        (Port.raise_lostReports _ _).trans c⟩
  case groups =>
    rw [State.allocate_some hi, State.evalPool_groups, hes.groups]
    rfl
  case registers =>
    rw [State.allocate_some hi, State.registers_evalPool, hreg]
    rfl

/-! ### The checks of SEND (R46 to R54) -/

/-- A SEND within the range check carries the payload and the tag that it was sent with. -/
theorem sendFields_some {dest cls report : Byte} {tag lifetime : Half} {declared : Byte}
    {payload : List Byte} {f : SendFields}
    (h : sendFields dest cls report tag lifetime declared payload = some f) :
    f.payload = payload ∧ f.tag = tag ∧ payload.length ≤ Config.maxPayload := by
  unfold sendFields at h
  split at h
  · split at h
    · next hr =>
      cases h
      exact ⟨rfl, rfl, by omega⟩
    · cases h
  · cases h

section
variable {p : PortId} {seq dest cls report : Byte} {tag lifetime : Half} {declared : Byte}
  {payload : List Byte}

/-- A SEND that reaches its own checks (R45, R151). -/
theorem exec_send_serves (hs : Serves s p) (hl : payload.length ≤ Config.maxPayload) :
    exec (.send p seq dest cls report tag lifetime declared payload) s =
      .next (s.takeCommand p Kind.send seq fun t =>
        t.sendOwn p (sendFields dest cls report tag lifetime declared payload)) := by
  rw [exec_send, event_awake _ hs.awake]
  simp only [if_pos hl]

/-- A SEND refused at its own checks (R46). -/
theorem exec_send_refuse (hs : Serves s p) (hl : payload.length ≤ Config.maxPayload) {st : Status}
    (ho : s.sendOwn p (sendFields dest cls report tag lifetime declared payload) = refuse s st) :
    exec (.send p seq dest cls report tag lifetime declared payload) s =
      .next (s.replied p Kind.send seq st .none) := by
  rw [exec_send_serves hs hl, takeCommand_refuse hs ho]

end

/-- The range check of a SEND fails (R47). -/
theorem sendOwn_range {p : PortId} (hm : s.mode ≠ .testing) : s.sendOwn p none = refuse s .range := by
  simp [State.sendOwn, hm]

/-- Checks 3 to 6 of a SEND refuse it (R46). -/
theorem sendOwn_error {p : PortId} {f : SendFields} {st : Status} (hm : s.mode ≠ .testing)
    (h : s.admission p f = .error st) : s.sendOwn p (some f) = refuse s st := by
  simp [State.sendOwn, hm, h]

/-- Checks 3 to 6 of a SEND let it pass (R46, R55). -/
theorem sendOwn_ok {p : PortId} {f : SendFields} {ts : List MailboxId} {k : Nat}
    (hm : s.mode ≠ .testing) (h : s.admission p f = .ok (ts, k)) :
    s.sendOwn p (some f) =
      answer (s.allocate p f ts k) (.sent (s.arrival + 1#32) ts.length k) := by
  simp [State.sendOwn, hm, h]

/-- A tag in use (R48). -/
theorem admission_dupTag {p : PortId} {f : SendFields} {d : DescId} {x : Descriptor}
    (hd : s.desc d = some x) (hp : x.senderPort = p) (he : x.senderEpoch = (s.port p).epoch)
    (ht : x.tag = f.tag) : s.admission p f = .error .dupTag := by
  have : (s.findTag p (s.port p).epoch f.tag).isSome = true := by
    cases h : s.findTag p (s.port p).epoch f.tag with
    | none => exact absurd ht (findTag_none.1 h d x hd hp he)
    | some _ => rfl
  simp [State.admission, this]

/-- With its tag not in use a SEND meets the destination's checks next (R46). -/
theorem admission_fresh {p : PortId} {f : SendFields}
    (h : ∀ d x, s.desc d = some x → x.senderPort = p → x.senderEpoch = (s.port p).epoch →
      x.tag ≠ f.tag) :
    s.admission p f =
      match s.targets f.dest with
      | .error st => .error st
      | .ok (ts, skipped) =>
        match s.shortfall ts.length f.payload.length with
        | some st => .error st
        | none => .ok (ts, skipped) := by
  rw [State.admission, findTag_none.2 h]
  rfl

/-- The destination's checks refuse (R49 to R53). -/
theorem admission_targets {p : PortId} {f : SendFields} {st : Status}
    (h : ∀ d x, s.desc d = some x → x.senderPort = p → x.senderEpoch = (s.port p).epoch →
      x.tag ≠ f.tag) (ht : s.targets f.dest = .error st) : s.admission p f = .error st := by
  rw [admission_fresh h, ht]

/-- The allocation check refuses (R54). -/
theorem admission_shortfall {p : PortId} {f : SendFields} {ts : List MailboxId} {k : Nat}
    {st : Status}
    (h : ∀ d x, s.desc d = some x → x.senderPort = p → x.senderEpoch = (s.port p).epoch →
      x.tag ≠ f.tag) (ht : s.targets f.dest = .ok (ts, k))
    (hs : s.shortfall ts.length f.payload.length = some st) : s.admission p f = .error st := by
  rw [admission_fresh h, ht]
  simp only [hs]

/-- Nothing refuses (R55). -/
theorem admission_ok {p : PortId} {f : SendFields} {ts : List MailboxId} {k : Nat}
    (h : ∀ d x, s.desc d = some x → x.senderPort = p → x.senderEpoch = (s.port p).epoch →
      x.tag ≠ f.tag) (ht : s.targets f.dest = .ok (ts, k))
    (hs : s.shortfall ts.length f.payload.length = none) : s.admission p f = .ok (ts, k) := by
  rw [admission_fresh h, ht]
  simp only [hs]

theorem isFull_iff {m : MailboxId} :
    s.isFull m = true ↔ (s.mbx m).queue.length = (s.mbx m).depth := by
  simp [State.isFull]

/-- The members of a group with room (R51 to R53). -/
def State.roomy (s : State) (g : GroupId) : List MailboxId :=
  (s.grp g).members.filter fun m => !s.isFull m

/-- A STRICT group takes a message for every member or for none (R52). -/
theorem groupTargets_strict {g : GroupId} (h : (s.grp g).policy = some .strict)
    (hm : (s.grp g).members ≠ []) :
    s.groupTargets g =
      if (s.roomy g).length = (s.grp g).members.length then .ok ((s.grp g).members, 0)
      else .error .full := by
  simp only [State.groupTargets, h, if_neg hm]
  rfl

/-- A LENIENT group takes a message for its members with room (R53). -/
theorem groupTargets_lenient {g : GroupId} (h : (s.grp g).policy = some .lenient)
    (hm : (s.grp g).members ≠ []) :
    s.groupTargets g =
      if s.roomy g = [] then .error .full
      else .ok (s.roomy g, (s.grp g).members.length - (s.roomy g).length) := by
  simp only [State.groupTargets, h, if_neg hm]
  rfl

/-- A member without room makes the list of those with room shorter. -/
theorem roomy_length {g : GroupId} :
    (s.roomy g).length = (s.grp g).members.length ↔
      ∀ m ∈ (s.grp g).members, s.isFull m = false := by
  rw [State.roomy, List.length_filter_eq_length_iff]
  simp

theorem roomy_eq_nil {g : GroupId} :
    s.roomy g = [] ↔ ∀ m ∈ (s.grp g).members, s.isFull m = true := by
  simp [State.roomy, List.filter_eq_nil_iff]

/-- Settles O27. -/
theorem sendChecksInOrder : Obligations.SendChecksInOrder := by
  intro s p seq dest cls report tag lifetime declared payload hs hl r hr
  have refused : ∀ st,
      s.sendOwn p (sendFields dest cls report tag lifetime declared payload) = refuse s st → r st :=
    fun st h => by rw [hr]; exact exec_send_refuse hs hl h
  refine ⟨fun hm => refused _ (by simp [State.sendOwn, hm]), fun hm hf => ?_, fun f hm hf => ?_⟩
  · exact refused _ (by rw [hf]; exact sendOwn_range (by rw [hm]; decide))
  obtain ⟨hpay, htag, -⟩ := sendFields_some hf
  have failed : ∀ st, s.admission p f = .error st → r st := fun st h =>
    refused st (by rw [hf]; exact sendOwn_error (by rw [hm]; decide) h)
  refine ⟨fun ⟨d, x, hd, hp, he, ht⟩ => failed _ (admission_dupTag hd hp he (ht.trans htag.symm)),
    fun hfresh => ?_⟩
  rw [← htag] at hfresh
  have target : ∀ st, s.targets f.dest = .error st → r st := fun st h =>
    failed st (admission_targets hfresh h)
  refine ⟨fun m hd => ?_, fun g hd => ?_, fun ts k ht => ?_⟩
  · have ht : s.targets f.dest = s.unicastTargets m := by rw [hd]; rfl
    refine ⟨fun h => target _ (ht.trans ?_), fun h => target _ (ht.trans ?_),
      fun h hfull => target _ (ht.trans ?_)⟩
    · simp [State.unicastTargets, h]
    · simp [State.unicastTargets, h]
    · rcases h with h | h <;> simp [State.unicastTargets, h, isFull_iff.2 hfull]
  · have ht : s.targets f.dest = s.groupTargets g := by rw [hd]; rfl
    refine ⟨fun h => target _ (ht.trans ?_), fun h hnil => target _ (ht.trans ?_),
      fun h hex => target _ (ht.trans ?_), fun h hne hall => target _ (ht.trans ?_)⟩
    · simp [State.groupTargets, h]
    · obtain ⟨pol, hpol⟩ := Option.ne_none_iff_exists'.1 h
      simp [State.groupTargets, hpol, hnil]
    · obtain ⟨m, hmem, hfull⟩ := hex
      rw [groupTargets_strict h (List.ne_nil_of_mem hmem), if_neg]
      intro hlen
      have := roomy_length.1 hlen m hmem
      rw [isFull_iff.2 hfull] at this
      cases this
    · rw [groupTargets_lenient h hne, if_pos]
      exact roomy_eq_nil.2 fun m hmem => isFull_iff.2 (hall m hmem)
  · have short : ∀ st, s.shortfall ts.length f.payload.length = some st → r st := fun st h =>
      failed st (admission_shortfall hfresh ht h)
    refine ⟨fun h => short _ ?_, fun ⟨d, hd⟩ hents => short _ ?_,
      fun ⟨d, hd⟩ hents hbufs => short _ ?_⟩
    · simp [State.shortfall, freeDescriptors_eq_zero.2 h]
    · have hz : s.freeDescriptors ≠ 0 := fun hz => freeDescriptors_eq_zero.1 hz d hd
      simp [State.shortfall, hz, hents]
    · have hz : s.freeDescriptors ≠ 0 := fun hz => freeDescriptors_eq_zero.1 hz d hd
      rw [← hpay, ← buffersFor_eq] at hbufs
      simp [State.shortfall, hz, Nat.not_lt.2 hents, hbufs]

/-! ### A SEND that is accepted (R55) -/

/-- The store's counts are enough (R10). -/
theorem shortfall_none {n k : Nat} (hd : 1 ≤ s.freeDescriptors) (he : n ≤ s.freeEntries)
    (hb : (k + 63) / 64 ≤ s.freeBuffers) : s.shortfall n k = none := by
  have hz : s.freeDescriptors ≠ 0 := by omega
  rw [← buffersFor_eq] at hb
  simp [State.shortfall, hz, Nat.not_lt.2 he, Nat.not_lt.2 hb]

/-- A SEND whose targets are found, its tag fresh and the store's counts enough, is accepted (R55). -/
theorem exec_send_accepted {p : PortId} {seq dest cls report : Byte} {tag lifetime : Half}
    {declared : Byte} {payload : List Byte} {f : SendFields} {ts : List MailboxId} {k : Nat}
    (hs : Serves s p) (hl : Lawful s) (hmem : s.mem.wf = true) (hm : s.mode = .running)
    (hf : sendFields dest cls report tag lifetime declared payload = some f)
    (hfresh : ∀ d x, s.desc d = some x → x.senderPort = p → x.senderEpoch = (s.port p).epoch →
      x.tag ≠ tag)
    (ht : s.targets f.dest = .ok (ts, k)) (hn : ts.Nodup) (hd : 1 ≤ s.freeDescriptors)
    (he : ts.length ≤ s.freeEntries) (hb : (payload.length + 63) / 64 ≤ s.freeBuffers) :
    ∃ t i bufs es, Accepted s t p f ts k i bufs es ∧
      exec (.send p seq dest cls report tag lifetime declared payload) s =
        .next (t.replied p Kind.send seq .ok (.sent (s.arrival + 1#32) ts.length k)) := by
  obtain ⟨hpay, htag, hlen⟩ := sendFields_some hf
  rw [← htag] at hfresh
  rw [← hpay] at hb
  obtain ⟨i, hi⟩ := exists_free_desc (s := s) (by omega)
  obtain ⟨bufs, es, hacc⟩ := accepted_allocate hl.store.core hmem hi p k hn he hb
  refine ⟨_, i, bufs, es, hacc, ?_⟩
  rw [exec_send_serves hs hlen]
  refine congrArg _ (takeCommand_answer hs ?_)
  rw [hf]
  exact sendOwn_ok (by rw [hm]; decide) (admission_ok hfresh ht (shortfall_none hd he hb))

/-- Settles O28. -/
theorem sendToAMailboxIsAccepted : Obligations.SendToAMailboxIsAccepted := by
  intro s p seq dest cls report tag lifetime declared payload f m hs hl hmem hm hf hd hfresh hst
    hroom hdesc hent hbuf
  have hnf : s.isFull m = false := by
    rw [Bool.eq_false_iff, ne_eq, isFull_iff]
    omega
  have ht : s.targets f.dest = .ok ([m], 0) := by
    rw [hd]
    rcases hst with h | h <;> simp [State.targets, State.unicastTargets, h, hnf]
  exact exec_send_accepted hs hl hmem hm hf hfresh ht (List.nodup_singleton m) hdesc hent hbuf

/-- Settles O29. -/
theorem sendToAGroupIsAccepted : Obligations.SendToAGroupIsAccepted := by
  intro s p seq dest cls report tag lifetime declared payload f g ts hs hl hmem hm hf hd hfresh hts
    hne hpol hdesc hent hbuf
  have hroom : s.roomy g = ts := by
    rw [hts]
    exact List.filter_congr fun m _ => by simp [State.isFull]
  have hmem_ne : (s.grp g).members ≠ [] := fun h => hne (by rw [hts, h]; rfl)
  have hn : ts.Nodup := by rw [hts]; exact (hl.groups g).1.sublist List.filter_sublist
  have ht : s.targets f.dest = .ok (ts, (s.grp g).members.length - ts.length) := by
    rw [hd]
    show s.groupTargets g = _
    rcases hpol with h | ⟨h, hall⟩
    · rw [groupTargets_lenient h hmem_ne, hroom, if_neg hne]
    · rw [groupTargets_strict h hmem_ne, hroom, hall, if_pos rfl, Nat.sub_self]
  exact exec_send_accepted hs hl hmem hm hf hfresh ht hn hdesc hent hbuf

end Sys2Proof.Machine
end

section
namespace Sys2Proof.Machine

variable {s t u : State}

/-! ### Power-on (R119, R174) -/

/-- Settles O7, by reading the power-on values record by record. -/
theorem powerOnSetsEveryPort : Obligations.PowerOnSetsEveryPort := by
  intro s psel rate
  refine ⟨s.powerOn psel rate, exec_powerOn psel rate s, rfl, rfl, rfl, rfl, rfl, rfl, rfl, rfl, rfl,
    rfl, fun d => Table.get_replicate _ d, fun e => Table.get_replicate _ e,
    fun b => Table.get_replicate _ b, fun m => ?_, fun g => ?_, fun hp hr hq => ?_,
    fun p => Table.get_ofFn _ p⟩
  · have h : (s.powerOn psel rate).mbx m = Mailbox.blank := Table.get_replicate _ m
    rw [h]
    exact ⟨rfl, rfl, rfl, rfl⟩
  · have h : (s.powerOn psel rate).grp g = Group.undefined := Table.get_replicate _ g
    rw [h]
    exact ⟨rfl, rfl⟩
  · subst hp hr
    rw [State.powerOn, hq]
    rfl

/-! ### Completed replies (R158) -/

/-- A change of a port record that reads and changes its replies alone. -/
def RepliesOnly (g : Port → Port) : Prop :=
  (∀ x, g x = { x with replies := (g x).replies }) ∧
    ∀ x y : Port, x.replies = y.replies → (g x).replies = (g y).replies

theorem Port.repliesOnly_complete (a : Awaited) (res : Results) :
    RepliesOnly (·.complete a res) := by
  refine ⟨fun x => Port.complete_eq x a res, fun x y h => ?_⟩
  show (x.complete a res).replies = (y.complete a res).replies
  unfold Port.complete
  rw [h]
  split
  · exact h
  · rfl

theorem RepliesOnly.ite {g : Port → Port} (h : RepliesOnly g) (P : Prop) [Decidable P] :
    RepliesOnly fun x => if P then g x else x := by
  split
  · exact h
  · exact ⟨fun _ => rfl, fun _ _ hxy => hxy⟩

theorem RepliesOnly.foldl {α : Type} {g : α → Port → Port} (h : ∀ a, RepliesOnly (g a))
    (as : List α) : RepliesOnly fun x => as.foldl (fun y a => g a y) x := by
  induction as with
  | nil => exact ⟨fun _ => rfl, fun _ _ hxy => hxy⟩
  | cons a rest ih =>
    refine ⟨fun x => ?_, fun x y hxy => ih.2 _ _ ((h a).2 x y hxy)⟩
    exact (ih.1 (g a x)).trans (congrArg (fun y : Port =>
      { y with replies := (rest.foldl (fun y a => g a y) (g a x)).replies }) ((h a).1 x))

/-! ### The result of a test (R8, R177) -/

/-- The buffers a test leaves. -/
def testedBuffers (failed : List BufferId) : Table BufferSet 384 :=
  Table.ofFn fun b => if b ∈ failed then .retired else .free

/-- The number of buffers that pass. -/
def goodOf (failed : List BufferId) : Nat :=
  ((List.finRange 384).filter fun b => decide (b ∉ failed)).length

theorem get_testedBuffers (failed : List BufferId) (b : BufferId) :
    (testedBuffers failed).get b = if b ∈ failed then .retired else .free :=
  Table.get_ofFn _ b

/-- The good count is the number of the buffers that did not fail (R8). -/
theorem count_testedBuffers (failed : List BufferId) :
    (testedBuffers failed).count (· = .free) = goodOf failed := by
  rw [Table.count_eq_length_indices]
  refine congrArg List.length (List.filter_congr fun b _ => ?_)
  rw [get_testedBuffers]
  by_cases h : b ∈ failed <;> simp [h]

/-- The state with a test's result in its pool and its good count, before arming is evaluated. -/
def State.tested (s : State) (failed : List BufferId) : State :=
  { s with buffers := testedBuffers failed, goodCount := goodOf failed }

theorem State.applyTest_eq (s : State) (failed : List BufferId) :
    s.applyTest failed = (s.tested failed).evalPool := by
  rw [State.tested, ← count_testedBuffers]
  rfl

theorem State.freeBuffers_tested (s : State) (failed : List BufferId) :
    (s.tested failed).freeBuffers = goodOf failed :=
  count_testedBuffers failed

/-- What a test's result leaves: its pool, the good count and the arming by the low mark (R19, R177). -/
structure Tested (s t : State) (failed : List BufferId) : Prop where
  buffers : t.buffers = testedBuffers failed
  goodCount : t.goodCount = goodOf failed
  poolArmed : t.poolArmed = decide (s.lowMark ≤ goodOf failed)
  ports : ∀ p, Told (s.port p) (t.port p) fun ev =>
    ev = .poolLow ∧ s.poolArmed = true ∧ goodOf failed < s.lowMark
  kept : ∀ p, (t.port p).replies = (s.port p).replies ∧ (t.port p).reports = (s.port p).reports ∧
    (t.port p).lostReports = (s.port p).lostReports
  raised : ∀ p, t.port p = s.port p ∨ t.port p = (s.port p).raise .poolLow
  quiet : ∀ p, (s.port p).session ≠ .up → t.port p = s.port p
  descriptors : t.descriptors = s.descriptors
  entries : t.entries = s.entries
  mailboxes : t.mailboxes = s.mailboxes
  groups : t.groups = s.groups
  mem : t.mem = s.mem
  lowMark : t.lowMark = s.lowMark
  dormancyLimit : t.dormancyLimit = s.dormancyLimit
  arrival : t.arrival = s.arrival
  rate : t.rate = s.rate

/-- A test's result applied (R177 steps 1 and 2). -/
theorem tested_applyTest (s : State) (failed : List BufferId) :
    Tested s (s.applyTest failed) failed := by
  rw [State.applyTest_eq]
  obtain ⟨-, -, -, hgood, -, hrate, hlow, hdor, harr, -⟩ :=
    State.registers_fields (State.registers_evalPool (s.tested failed))
  have hport := (s.tested failed).port_evalPool_cases
  constructor
  case buffers => exact State.evalPool_buffers _
  case goodCount => exact hgood
  case poolArmed => rw [State.evalPool_armed, State.freeBuffers_tested]; rfl
  case ports =>
    intro p
    have := (s.tested failed).told_evalPool p
    rwa [State.freeBuffers_tested] at this
  case kept =>
    intro p
    rcases hport p with h | h <;> rw [h]
    · exact ⟨rfl, rfl, rfl⟩
    · exact ⟨Port.raise_replies _ _, Port.raise_reports _ _, Port.raise_lostReports _ _⟩
  case raised => exact hport
  case quiet =>
    intro p hp
    rcases hport p with h | h <;> rw [h]
    · rfl
    · exact Port.raise_quiet _ hp
  case descriptors => exact State.evalPool_descriptors _
  case entries => exact State.evalPool_entries _
  case mailboxes => exact State.evalPool_mailboxes _
  case groups => exact State.evalPool_groups _
  case mem => exact State.evalPool_mem _
  case lowMark => exact hlow
  case dormancyLimit => exact hdor
  case arrival => exact harr
  case rate => exact hrate

/-- A test's result with the mode that it reaches, before what follows at the ports (R177 step 3). -/
def State.endTest (s : State) (failed : List BufferId) : State :=
  { s.applyTest failed with mode := modeReached (goodOf failed), startUp := false }

theorem tested_endTest (s : State) (failed : List BufferId) :
    Tested s (s.endTest failed) failed :=
  { tested_applyTest s failed with }

/-- A test end in TESTING (R177). -/
theorem exec_testEnd_testing (hr : s.inReset = false) (hm : s.mode = .testing)
    (failed : List BufferId) :
    exec (.testEnd failed) s = .next ((s.endTest failed).afterTest s.startUp) := by
  rw [exec_testEnd, event_awake _ hr]
  simp only [State.testEnds, if_pos hm, State.endTest, (tested_applyTest s failed).goodCount]

/-- Settles O9: during the start-up interval every port is DOWN, so a test's result raises nothing and each
port record is announced as it stood. -/
theorem powerOnTestEndAnnounces : Obligations.PowerOnTestEndAnnounces := by
  intro s failed hr hsu hmode
  obtain ⟨hm, -, hdown⟩ := hmode.startUp hsu
  have ht := tested_endTest s failed
  refine ⟨(s.endTest failed).announceAll, ?_, fun b => ?_, ht.goodCount, ?_, rfl, ?_, fun p => ?_,
    ht.descriptors, ht.entries, ht.mailboxes, ht.groups, ht.mem, ht.lowMark, ht.dormancyLimit,
    ht.arrival, ht.rate⟩
  · rw [exec_testEnd_testing hr hm, hsu]
    rfl
  · exact (congrArg (·.get b) ht.buffers).trans (get_testedBuffers failed b)
  · show modeReached (goodOf failed) = if 96 ≤ (s.endTest failed).goodCount then _ else _
    rw [ht.goodCount]
    rfl
  · show (s.endTest failed).poolArmed = decide (s.lowMark ≤ (s.endTest failed).goodCount)
    rw [ht.poolArmed, ht.goodCount]
  · rw [State.announceAll, State.port_allPorts, ht.quiet p (by rw [hdown p]; decide)]
    rfl

/-- Settles O10: the result's raise of POOL_LOW and the completion of the deferred reply touch different
fields of a port record. -/
theorem retestEndInRunning : Obligations.RetestEndInRunning := by
  intro s failed hr hsu hm hgood
  have ht := tested_endTest s failed
  have hmode : modeReached (goodOf failed) = .running := if_pos hgood
  have hg : (s.endTest failed).goodCount = goodOf failed := ht.goodCount
  have hport : ∀ p, ((s.endTest failed).allPorts
      (·.complete .retest (.retested (goodOf failed)))).port p =
      { (s.endTest failed).port p with
        replies := ((s.port p).complete .retest (.retested (goodOf failed))).replies } := fun p => by
    rw [State.port_allPorts, Port.complete_eq, (Port.repliesOnly_complete _ _).2 _ _ (ht.kept p).1]
  refine ⟨(s.endTest failed).allPorts (·.complete .retest (.retested (goodOf failed))), ?_,
    hmode, fun b => ?_, hg, ?_, fun p => ?_, fun p => ?_, ht.descriptors, ht.entries, ht.mailboxes,
    ht.groups, ht.mem, ht.lowMark, ht.dormancyLimit, ht.arrival⟩
  · rw [exec_testEnd_testing hr hm, hsu, State.afterTest, hg]
    simp only [State.endTest, hmode]
    rfl
  · exact (congrArg (·.get b) ht.buffers).trans (get_testedBuffers failed b)
  · show (s.endTest failed).poolArmed = decide (s.lowMark ≤ (s.endTest failed).goodCount)
    rw [ht.poolArmed, hg]
  · rw [hport]
    show Told _ _ fun ev => ev = .poolLow ∧ s.poolArmed = true ∧ (s.endTest failed).goodCount < _
    rw [hg]
    exact (ht.ports p).of_aside rfl rfl rfl rfl rfl rfl rfl rfl
  · rw [hport]
    refine ⟨?_, (ht.kept p).2⟩
    show _ = (Port.complete _ _ (.retested (s.endTest failed).goodCount)).replies
    rw [hg]

/-! ### CLEAR (R182) -/

/-- Port `q` when CLEAR completes the close of mailbox `m`, its record `x` (R44). -/
def Port.closeCleared (y : Port) (q : PortId) (m : MailboxId) (x : Mailbox) : Port :=
  if x.state = .closing ∧ x.closeReply.map (·.1) = some q then
    y.complete (.close m) (.closedMailbox m x.closeCount)
  else y

theorem Port.repliesOnly_closeCleared (q : PortId) (m : MailboxId) (x : Mailbox) :
    RepliesOnly (·.closeCleared q m x) :=
  (Port.repliesOnly_complete _ _).ite _

/-- One deferred close completed by CLEAR touches the port that it is owed to alone (R44). -/
theorem State.completeClose_spec (s : State) (m : MailboxId) (x : Mailbox) :
    (∃ ports, s.completeClose m x = { s with ports := ports }) ∧
    ∀ q, (s.completeClose m x).port q = (s.port q).closeCleared q m x := by
  unfold State.completeClose Port.closeCleared
  by_cases hx : x.state = .closing
  · cases h : x.closeReply with
    | none => simp only [hx, if_true]; exact ⟨⟨_, rfl⟩, fun q => by simp⟩
    | some r =>
      simp only [hx, if_true]
      refine ⟨⟨_, rfl⟩, fun q => ?_⟩
      rw [State.port_updPort]
      by_cases hq : q = r.1
      · simp [hq]
      · simp [hq, Ne.symm hq]
  · simp only [hx, if_false]
    exact ⟨⟨s.ports, rfl⟩, fun q => by simp⟩

/-- The deferred closes completed by CLEAR, mailbox by mailbox, `f` giving their records (R44). -/
theorem completeClose_foldl (s : State) (f : MailboxId → Mailbox) (ms : List MailboxId) :
    (∃ ports, ms.foldl (fun t m => t.completeClose m (f m)) s = { s with ports := ports }) ∧
    ∀ q, (ms.foldl (fun t m => t.completeClose m (f m)) s).port q =
      ms.foldl (fun y m => y.closeCleared q m (f m)) (s.port q) := by
  induction ms generalizing s with
  | nil => exact ⟨⟨s.ports, rfl⟩, fun _ => rfl⟩
  | cons m rest ih =>
    obtain ⟨⟨ps, h1⟩, hq1⟩ := s.completeClose_spec m (f m)
    obtain ⟨⟨ps', h2⟩, hq2⟩ := ih (s.completeClose m (f m))
    refine ⟨⟨ps', ?_⟩, fun q => ?_⟩
    · rw [List.foldl_cons, h2, h1]
    · rw [List.foldl_cons, hq2, hq1, List.foldl_cons]

/-- The state with its contents cleared and pool-low arming armed, before the arming is evaluated. -/
def State.emptied (s : State) : State := { s.clearContents with poolArmed := true }

theorem State.port_emptied (s : State) (q : PortId) :
    s.emptied.port q = (s.port q).clearTraffic :=
  Table.get_map _ _ q

/-- What CLEAR does to the tables, and to each port record (R182). -/
theorem State.clearAll_spec (s : State) :
    (∃ ports, s.clearAll = { s.emptied.evalPool with ports := ports }) ∧
    ∀ q, s.clearAll.port q = (List.finRange 32).foldl
      (fun y m => y.closeCleared q m (s.mbx m)) (s.emptied.evalPool.port q) :=
  completeClose_foldl s.emptied.evalPool s.mbx (List.finRange 32)

/-- CLEAR at one port: the replies aside, it is what the evaluation of pool-low arming leaves (R20). -/
theorem State.port_clearAll (s : State) (q : PortId) :
    s.clearAll.port q = { s.emptied.evalPool.port q with
      replies := ((List.finRange 32).foldl (fun y m => y.closeCleared q m (s.mbx m))
        (s.port q)).replies } := by
  have h := RepliesOnly.foldl (fun m => Port.repliesOnly_closeCleared q m (s.mbx m))
    (List.finRange 32)
  have hr : (s.emptied.evalPool.port q).replies = (s.port q).replies := by
    rcases s.emptied.port_evalPool_cases q with hp | hp <;>
      simp [hp, State.port_emptied, Port.clearTraffic]
  exact (s.clearAll_spec.2 q).trans ((h.1 _).trans
    (congrArg (fun r => { s.emptied.evalPool.port q with replies := r }) (h.2 _ _ hr)))

/-- Settles O13: the two refusals are CLEAR's own checks, and its effect is read table by table. -/
theorem clearEmptiesTheExchange : Obligations.ClearEmptiesTheExchange := by
  intro s p seq hs
  have hexec : exec (.clear p seq) s =
      .next (s.takeCommand p Kind.clear seq (ofPrincipal p fun t => t.clearOwn)) :=
    (exec_clear p seq s).trans (event_awake _ hs.awake)
  rw [hexec]
  refine ⟨fun hp => congrArg _ (takeCommand_refuse hs (ofPrincipal_no hp)), fun hp hm =>
    congrArg _ (takeCommand_refuse hs ((ofPrincipal_yes hp).trans (by simp [State.clearOwn, hm]))),
    fun hp hm => ?_⟩
  have hown : ofPrincipal p (fun t => t.clearOwn) s = answer s.clearAll .none :=
    (ofPrincipal_yes hp).trans (by simp [State.clearOwn, hm])
  obtain ⟨⟨ports, heq⟩, -⟩ := s.clearAll_spec
  have hfree : s.clearAll.freeBuffers = s.emptied.freeBuffers := by
    rw [heq]; exact State.freeBuffers_evalPool _
  have hpost : ∀ q, (s.clearAll.replied p Kind.clear seq .ok .none).port q =
      if q = p then (s.clearAll.port q).post ⟨Kind.clear, seq, .ready .ok .none⟩
      else s.clearAll.port q := fun q => State.port_updPort _ _ _ _
  refine ⟨_, congrArg _ (takeCommand_answer hs hown), fun e => ?_, fun d => ?_, fun m => ?_,
    fun g => ?_, fun b => ?_, ?_, fun q => ?_, fun q => ?_, fun q => ?_, ?_, ?_⟩
  · show s.clearAll.entry e = none
    rw [heq]
    exact (State.entry_evalPool _ e).trans (Table.get_replicate _ e)
  · show s.clearAll.desc d = none
    rw [heq]
    exact (State.desc_evalPool _ d).trans (Table.get_replicate _ d)
  · show s.clearAll.mbx m = _
    rw [heq]
    exact (State.mbx_evalPool _ m).trans (Table.get_replicate _ m)
  · show s.clearAll.groups.get g = _
    rw [heq, State.evalPool_groups]
    exact Table.get_map _ _ g
  · show s.clearAll.buffers.get b = _
    rw [heq, State.evalPool_buffers]
    refine (Table.get_map _ _ b).trans ?_
    cases s.buffers.get b <;> rfl
  · show s.clearAll.poolArmed = decide (s.lowMark ≤ s.clearAll.freeBuffers)
    rw [hfree, heq]
    exact State.evalPool_armed _
  · have ht := s.emptied.told_evalPool q
    rw [State.port_emptied] at ht
    show Told _ _ fun ev => ev = .poolLow ∧ s.clearAll.freeBuffers < s.lowMark
    rw [hfree, hpost, State.port_clearAll]
    refine (ht.congr (due' := fun ev => ev = .poolLow ∧ s.emptied.freeBuffers < s.lowMark) fun ev =>
      and_congr_right fun _ => and_iff_right rfl).of_aside rfl ?_ rfl ?_ rfl ?_ rfl ?_ <;>
      split <;> rfl
  · rw [hpost, State.port_clearAll]
    rcases s.emptied.port_evalPool_cases q with hq | hq <;> split <;>
      simp [hq, State.port_emptied, Port.clearTraffic, Port.post]
  · rw [hpost, State.port_clearAll]
    split
    · rfl
    · exact (List.append_nil _).symm
  · show s.clearAll.mem = s.mem
    rw [heq]
    exact State.evalPool_mem _
  · show s.clearAll.registers = s.registers
    rw [heq]
    exact State.registers_evalPool _

end Sys2Proof.Machine
end

section
namespace Sys2Proof.Machine

variable {s t u v w : State}

/-! ### Session ends with nothing in flight (R139, R180) -/

/-- Nothing is in flight and no mailbox is CLOSING: a session end then has neither offers to withdraw nor
closes to complete. -/
structure Idle (s : State) : Prop where
  flight : ∀ p, (s.port p).inFlight = []
  open_ : ∀ m, (s.mbx m).state ≠ .closing

/-- With no message LIVE nothing is in flight and no mailbox is CLOSING. -/
theorem StoreLaw.idle (h : StoreLaw s) (hd : ∀ d, s.desc d = none) : Idle s := by
  have none : ∀ e, s.entry e = none := fun e => by
    cases he : s.entry e with
    | none => rfl
    | some en =>
      have := (h.entry e en he).1
      rw [hd] at this
      cases this
  refine ⟨fun p => List.eq_nil_iff_forall_not_mem.2 fun e he => ?_, fun m hm => (h.closing m hm).1
    (List.eq_nil_iff_forall_not_mem.2 fun e he => ?_)⟩
  · obtain ⟨en, hen, -⟩ := h.flight p e he
    rw [none] at hen
    cases hen
  · obtain ⟨en, hen, -⟩ := h.queue m e he
    rw [none] at hen
    cases hen

/-- The record of a port whose session a test fault ends (R132, R133, R139). -/
def Port.faulted (x : Port) : Port := (x.discardLink .testFault).leaveUp .testFault

/-- A raise leaves no trace in the record of a session that ends. -/
theorem Port.faulted_raise (x : Port) (e : Event) : (x.raise e).faulted = x.faulted := by
  rw [Port.raise_eq]
  rfl

/-- With no mailbox CLOSING there is no close to complete. -/
theorem Idle.closesEnded (h : Idle s) (p q : PortId) : s.closesEnded p q = s.port q := by
  have hid : ∀ (ms : List MailboxId) (x : Port),
      ms.foldl (fun y m => y.ownerGone q m (s.mbx m) p) x = x := fun ms => by
    induction ms with
    | nil => exact fun _ => rfl
    | cons m rest ih =>
      intro x
      rw [List.foldl_cons, ih]
      exact if_neg fun hm => h.open_ m hm.2.1
  exact hid _ _

/-- A session end with nothing in flight. -/
theorem Idle.endSession (h : Idle s) (p : PortId) :
    OnlyPortsBoxes s (s.endSession p .testFault) ∧ Idle (s.endSession p .testFault) ∧
    (s.endSession p .testFault).port p = (s.port p).faulted ∧
    ∀ q, q ≠ p → (s.endSession p .testFault).port q = s.port q ∨
      (s.endSession p .testFault).port q = (s.port q).raise .portDown := by
  have hw : s.endSession p .testFault = s.leaveUp p .testFault := by
    rw [State.endSession_eq, State.withdraw_eq, h.flight]
    rfl
  have hself : (s.leaveUp p .testFault).port p = (s.port p).faulted := by
    rw [State.port_leaveUp_self, h.closesEnded]
    rfl
  have hother : ∀ q, q ≠ p → (s.leaveUp p .testFault).port q = s.port q ∨
      (s.leaveUp p .testFault).port q = (s.port q).raise .portDown := fun q hq => by
    rw [State.port_leaveUp_ne _ _ hq, h.closesEnded]
    split
    · exact .inr rfl
    · exact .inl rfl
  rw [hw]
  refine ⟨State.leaveUp_only s p _, ⟨fun q => ?_, fun m hm => ?_⟩, hself, hother⟩
  · by_cases hq : q = p
    · rw [hq, hself]
      rfl
    · rcases hother q hq with hp | hp <;> rw [hp]
      · exact h.flight q
      · exact (Port.raise_inFlight _ _).trans (h.flight q)
  · rw [State.mbx_leaveUp] at hm
    revert hm
    unfold Mailbox.ownerGone
    split_ifs
    · exact fun hm => nomatch hm
    · exact fun hm => nomatch hm
    · exact h.open_ m

/-- What a test fault's session ends leave after the ports `ps`: those that were UP have ended, the others may
have had a raise. -/
structure TornDown (s t : State) (ps : List PortId) : Prop where
  only : OnlyPortsBoxes s t
  idle : Idle t
  quiet : ∀ q, (s.port q).session ≠ .up → t.port q = s.port q
  ended : ∀ q ∈ ps, (s.port q).session = .up → t.port q = (s.port q).faulted
  waiting : ∀ q, q ∉ ps → (s.port q).session = .up →
    (t.port q).session = .up ∧ (t.port q).faulted = (s.port q).faulted

/-- The session end at one more port. -/
theorem TornDown.step {ps : List PortId} {p : PortId} (h : TornDown s t ps) (hp : p ∉ ps) :
    TornDown s (t.endSessionAtFault p) (ps ++ [p]) := by
  unfold State.endSessionAtFault
  by_cases hup : (s.port p).session = .up
  · obtain ⟨hs, hf⟩ := h.waiting p hp hup
    obtain ⟨honly, hidle, hself, hother⟩ := h.idle.endSession p
    rw [if_pos hs]
    refine ⟨h.only.trans honly, hidle, fun q hq => ?_, fun q hq hqu => ?_, fun q hq hqu => ?_⟩
    · have hne : q ≠ p := fun hqp => hq (hqp ▸ hup)
      have hq' : (t.port q).session ≠ .up := by rw [h.quiet q hq]; exact hq
      rcases hother q hne with h' | h' <;> rw [h']
      · exact h.quiet q hq
      · rw [Port.raise_quiet _ hq']
        exact h.quiet q hq
    · by_cases hqp : q = p
      · rw [hqp, hself, hf]
      · have hmem : q ∈ ps := by simpa [hqp] using hq
        have hend := h.ended q hmem hqu
        have hdone : (t.port q).session ≠ .up := by rw [hend]; simp [Port.faulted, Port.leaveUp,
          EndCause.after]
        rcases hother q hqp with h' | h' <;> rw [h']
        · exact hend
        · rw [Port.raise_quiet _ hdone]
          exact hend
    · obtain ⟨hqps, hqp⟩ : q ∉ ps ∧ q ≠ p := by simpa using hq
      obtain ⟨hqs, hqf⟩ := h.waiting q hqps hqu
      rcases hother q hqp with h' | h' <;> rw [h']
      · exact ⟨hqs, hqf⟩
      · exact ⟨(Port.raise_session _ _).trans hqs, (Port.faulted_raise _ _).trans hqf⟩
  · have hs : (t.port p).session ≠ .up := by rw [h.quiet p hup]; exact hup
    rw [if_neg hs]
    refine ⟨h.only, h.idle, h.quiet, fun q hq hqu => ?_, fun q hq => h.waiting q fun hqps =>
      hq (List.mem_append_left _ hqps)⟩
    rcases List.mem_append.1 hq with hq | hq
    · exact h.ended q hq hqu
    · exact absurd (List.mem_singleton.1 hq ▸ hqu) hup

/-- Every session ended by a test fault. -/
theorem tornDown_foldl (h : Idle s) :
    TornDown s ((List.finRange 6).foldl (fun u p => u.endSessionAtFault p) s)
      (List.finRange 6) := by
  have go : ∀ (rest done : List PortId) (t : State), TornDown s t done → (done ++ rest).Nodup →
      TornDown s (rest.foldl (fun u p => u.endSessionAtFault p) t) (done ++ rest) := by
    intro rest
    induction rest with
    | nil => intro done t ht _; rwa [List.append_nil]
    | cons p rest ih =>
      intro done t ht hn
      rw [List.append_cons] at hn ⊢
      have hp : p ∉ done := fun hp => by
        have := List.nodup_append.1 (List.nodup_append.1 hn).1
        exact this.2.2 p hp p (by simp) rfl
      exact ih _ _ (ht.step hp) hn
  exact go (List.finRange 6) [] s
    ⟨rfl, h, fun _ _ => rfl, fun _ hq => by simp at hq, fun _ _ hq => ⟨hq, rfl⟩⟩
    (List.nodup_finRange 6)

/-- The record of a port after the teardown of a test fault (R139, R180). -/
def Port.afterFault (x : Port) : Port :=
  if x.session = .down then x else { x with helloPending := true, session := .announced }

/-- What follows the session ends of a test fault (R139, R180). -/
def State.freed (t : State) : State :=
  ({ t with
    mailboxes := Table.replicate 32 Mailbox.blank
    groups := t.groups.map fun g => { g with members := [] } } : State).allPorts Port.afterFault

theorem State.faultTeardown_eq (s : State) : s.faultTeardown =
    ((List.finRange 6).foldl (fun u p => u.endSessionAtFault p) s).freed := rfl

/-- Mailboxes, ports and groups aside, two states are the same. -/
def OnlyBoxesPortsGroups (s t : State) : Prop :=
  t = { s with mailboxes := t.mailboxes, ports := t.ports, groups := t.groups }

/-- What follows the session ends, when every port has been looked at. -/
theorem TornDown.freed (h : TornDown s t (List.finRange 6)) :
    OnlyBoxesPortsGroups s t.freed ∧
    (∀ m, t.freed.mbx m = Mailbox.blank) ∧
    (∀ g, t.freed.grp g = { s.grp g with members := [] }) ∧
    ∀ p, t.freed.port p =
      if (s.port p).session = .up then (s.port p).faulted.afterFault else (s.port p).afterFault := by
  have hg := h.only.tables.2.2.2.2.1
  refine ⟨?_, fun m => Table.get_replicate _ m, fun g => ?_, fun p => ?_⟩
  · unfold OnlyBoxesPortsGroups State.freed
    rw [h.only]
    rfl
  · refine (Table.get_map _ _ g).trans ?_
    rw [hg]
    rfl
  · rw [State.freed, State.port_allPorts]
    show (t.port p).afterFault = _
    split
    · next hu => rw [h.ended p (List.mem_finRange p) hu]
    · next hu => rw [h.quiet p hu]

/-- Settles O11: with no message LIVE during a test, the teardown has nothing to withdraw and no close to
complete, so each UP port's record is the one its session end leaves. -/
theorem retestEndInFault : Obligations.RetestEndInFault := by
  intro s failed hr hsu hm hl hbad
  have ht := tested_endTest s failed
  have hmode : modeReached (goodOf failed) = .fault := if_neg (Nat.not_le.2 hbad)
  have hlive : ∀ d, s.desc d = none := hl.mode.store (by rw [hm]; decide)
  have hidle := hl.store.idle hlive
  have hmbx : ∀ m, (s.endTest failed).mbx m = s.mbx m := fun m => congrArg (·.get m) ht.mailboxes
  have hu : Idle (s.endTest failed) :=
    ⟨fun p => (ht.ports p).inFlight.trans (hidle.flight p), fun m => by
      rw [hmbx]; exact hidle.open_ m⟩
  obtain ⟨heq, hblank, hgrp, hport⟩ := (tornDown_foldl hu).freed
  rw [← State.faultTeardown_eq] at heq hblank hgrp hport
  have hg : (s.endTest failed).faultTeardown.goodCount = goodOf failed := by
    rw [heq]; exact ht.goodCount
  refine ⟨(s.endTest failed).faultTeardown, ?_, ?_, fun b => ?_, hg, ?_, hblank, fun g => ?_,
    fun p hp => ?_, fun p hp => ?_, fun p hp => ?_, ?_, ?_, ?_, ?_, ?_, ?_⟩
  · rw [exec_testEnd_testing hr hm, hsu, State.afterTest]
    have : (s.endTest failed).mode = .fault := hmode
    simp only [this, if_true, Bool.false_eq_true, if_false]
  · rw [heq]; exact hmode
  · rw [heq]
    exact (congrArg (·.get b) ht.buffers).trans (get_testedBuffers failed b)
  · rw [hg, heq]; exact ht.poolArmed
  · rw [hgrp]
    exact congrArg (fun x : Group => { x with members := [] }) (congrArg (·.get g) ht.groups)
  · rw [hport, ht.quiet p (by rw [hp]; decide), if_neg (by rw [hp]; decide), Port.afterFault,
      if_pos hp]
  · rw [hport, ht.quiet p (by rw [hp]; decide), if_neg (by rw [hp]; decide), Port.afterFault,
      if_neg (by rw [hp]; decide), ← hp]
  · have hf : ((s.endTest failed).port p).faulted = (s.port p).faulted := by
      rcases ht.raised p with h | h <;> rw [h]
      exact Port.faulted_raise _ _
    rw [hport, if_pos ((ht.ports p).session.trans hp), hf]
    rfl
  · rw [heq]; exact ht.descriptors
  · rw [heq]; exact ht.entries
  · rw [heq]; exact ht.mem
  · rw [heq]; exact ht.lowMark
  · rw [heq]; exact ht.dormancyLimit
  · rw [heq]; exact ht.arrival

end Sys2Proof.Machine
end

section
namespace Sys2Proof.Machine

/-! ### What a command can do

Said once for every row: the effects that a command can have before its reply is posted, and with them all
that one event can do to the state. Every invariant goes through these. -/

/-- The member list of a group after a group command: shorter, or longer by one mailbox that may join. -/
def GroupStep (s : State) (x y : Group) : Prop :=
  (y.members.Sublist x.members ∧ (y.policy = none → y.members = [])) ∨
  ∃ m, y = { x with members := x.members ++ [m] } ∧ x.policy ≠ none ∧ m ∉ x.members ∧
    x.members.length ≠ Config.maxMembers ∧ (s.mbx m).state ≠ .free ∧ (s.mbx m).state ≠ .closing

/-- The effects of the session commands that pass their checks, from the state before to the state after. -/
inductive Effect (p : PortId) : State → State → Prop
  | detach (s) : Effect p s (s.endSession p .detach)
  | opened (s m depth ack retry mark) (hfree : (s.mbx m).state = .free)
      (hok : openSettingsOk depth ack retry mark = true) :
      Effect p s (s.updMbx m fun _ => Mailbox.opened p depth ack retry mark)
  | close (s seq m) (hopen : (s.mbx m).state = .opened) :
      Effect p s ((s.tellOwner p m).closeOpen p seq m).1
  | freed (s m) (hdor : (s.mbx m).state = .dormant) :
      Effect p s ((s.tellOwner p m).freeDormant m)
  | held (s m b) (hopen : (s.mbx m).state = .opened) :
      Effect p s (s.updMbx m fun x => { x with held := b })
  | reclaim (s m) (hdor : (s.mbx m).state = .dormant) :
      Effect p s (s.updMbx m fun x =>
        { x with state := .opened, dormancyDeadline := none, owner := p })
  | send (s f ts k) (hm : s.mode = .running) (hlen : f.payload.length ≤ Config.maxPayload)
      (hok : s.admission p f = .ok (ts, k)) : Effect p s (s.allocate p f ts k)
  | cancel (s i d) (hd : s.desc i = some d) : Effect p s (s.cancelAt i d.sequence).1
  | setEvents (s e) : Effect p s (s.updPort p fun x => Port.evalNotice { x with enables := e })
  | readEvents (s) : Effect p s (s.updPort p (·.readEvents))
  | configure (s) (mark limit : Nat) :
      Effect p s ({ s with lowMark := mark, dormancyLimit := limit } : State).evalPool
  | group (s g f) (hg : GroupStep s (s.grp g) (f (s.grp g))) : Effect p s (s.updGrp g f)
  | clear (s) (hm : s.mode ≠ .testing) : Effect p s s.clearAll
  | retest (s) (hm : s.mode ≠ .testing) (hlive : ∀ d, s.desc d = none) :
      Effect p s { s with mode := .testing }

/-- The reply is no refusal: it is deferred, or its status is OK or PARTIAL. -/
def ReplyState.done (r : ReplyState) : Prop :=
  ∀ st res, r = .ready st res → st = .ok ∨ st = .partialCancel

/-- What a command frame on a port that hears can come to: the state before its reply is posted, and that
reply's state. -/
inductive Answer (p : PortId) : State → State × ReplyState → Prop
  | refused (s st) : Answer p s (refuse s st)
  | read (s res) : Answer p s (answer s res)
  | attached (s epoch w e res) (hm : s.mode ≠ .fault) (hup : (s.port p).session ≠ .up)
      (he : epoch ≠ 0#16) (hw : 1 ≤ w ∧ w ≤ 4) :
      Answer p s (answer (s.updPort p (·.attach epoch w e)) res)
  | effect (s r) (h : Serves s p) (e : Effect p s r.1) (hr : r.2.done) : Answer p s r

variable {s t u : State} {p : PortId}

theorem ReplyState.done_ok (res : Results) : (ReplyState.ready .ok res).done := fun st res h => by
  cases h; exact .inl rfl

theorem ReplyState.done_deferred (a : Awaited) : (ReplyState.deferred a).done := fun st res h => by
  cases h

/-- A command done with an effect. -/
theorem Answer.done (h : Serves s p) (e : Effect p s t) (res : Results) :
    Answer p s (answer t res) :=
  .effect s _ h e (ReplyState.done_ok res)

theorem closeOpen_done (s : State) (p : PortId) (seq : Byte) (m : MailboxId) :
    (s.closeOpen p seq m).2.done := by
  unfold State.closeOpen
  dsimp only
  split
  · exact ReplyState.done_ok _
  · exact ReplyState.done_deferred _

theorem cancelAt_done (s : State) (i : DescId) (sequence : BitVec 32) :
    (s.cancelAt i sequence).2.done := by
  unfold State.cancelAt
  dsimp only
  split
  · exact ReplyState.done_ok _
  · intro st res hr
    cases hr
    exact .inr rfl

/-! ### The commands' own checks and effects -/

/-- ATTACH (R127 to R129). -/
theorem nextEpoch_ne_zero (e : BitVec 16) : nextEpoch e ≠ 0#16 := by
  unfold nextEpoch
  split
  · decide
  · next h =>
    intro h0
    exact h (by bv_omega)

theorem State.epochFrom_ne_zero (s : State) (p : PortId) (fuel : Nat) (e : BitVec 16) :
    s.epochFrom p fuel e ≠ 0#16 := by
  induction fuel generalizing e with
  | zero => exact nextEpoch_ne_zero e
  | succ k ih =>
    unfold State.epochFrom
    split
    · exact ih _
    · exact nextEpoch_ne_zero e

theorem windowOf_some {b : Byte} {w : Nat} (h : windowOf b = some w) : 1 ≤ w ∧ w ≤ 4 := by
  unfold windowOf at h
  split at h
  · next hb => cases h; exact hb
  · cases h

theorem answer_attachOwn (hm : s.mode ≠ .fault) (w e : Byte) : Answer p s (s.attachOwn p w e) := by
  unfold State.attachOwn
  split
  · exact .refused s _
  · next hup =>
    split
    · next hw _ =>
      exact .attached s _ _ _ _ hm hup (s.epochFrom_ne_zero p 128 _) (windowOf_some hw)
    · exact .refused s _

section
variable (h : Serves s p)
include h

theorem answer_openOwn (id depth : Byte) (ack : Half) (retry mark : Byte) :
    Answer p s (s.openOwn p id depth ack retry mark) := by
  unfold State.openOwn
  split
  · next hok =>
    split
    · split
      · next hf => exact .done h (.opened s _ _ _ _ _ hf hok) _
      · exact .refused s _
    · split
      · split
        · next hf =>
          exact .done h (.opened s _ _ _ _ _
            (of_decide_eq_true (Table.first_eq_some hf).1) hok) _
        · exact .refused s _
      · exact .refused s _
  · exact .refused s _

theorem answer_closeAt {m : MailboxId} (seq : Byte)
    (hs : (s.mbx m).state = .opened ∨ (s.mbx m).state = .dormant) :
    Answer p s ((s.tellOwner p m).closeAt p seq m) := by
  have hm : (s.tellOwner p m).mbx m = s.mbx m := by unfold State.tellOwner; split <;> rfl
  rcases hs with ho | hd
  · rw [closeAt_opened (by rw [hm]; exact ho)]
    exact .effect s _ h (.close s seq m ho) (closeOpen_done _ _ _ _)
  · rw [closeAt_dormant (by rw [hm]; exact hd)]
    exact .done h (.freed s m hd) _

theorem answer_closeOwn (seq id : Byte) : Answer p s (s.closeOwn p seq id) := by
  unfold State.closeOwn
  split
  · exact .refused s _
  · next m _ =>
    split_ifs with hf ho
    · exact .refused s _
    · exact .refused s _
    · have hself : s.tellOwner p m = s := if_pos (not_not.1 ho)
      cases hs : (s.mbx m).state with
      | opened =>
        have := answer_closeAt h seq (.inl hs)
        rwa [hself] at this
      | dormant =>
        have := answer_closeAt h seq (.inr hs)
        rwa [hself] at this
      | closing => simp only [State.closeAt, hs]; exact .refused s _
      | free => exact absurd hs hf

theorem answer_forceCloseOwn (seq id : Byte) : Answer p s (s.forceCloseOwn p seq id) := by
  unfold State.forceCloseOwn
  split
  · exact .refused s _
  · next m _ =>
    cases hs : (s.mbx m).state with
    | free => exact .refused s _
    | closing => exact .refused s _
    | opened => exact answer_closeAt h seq (.inl hs)
    | dormant => exact answer_closeAt h seq (.inr hs)

theorem answer_setHeldOwn (id : Byte) (b : Bool) : Answer p s (s.setHeldOwn p id b) := by
  unfold State.setHeldOwn
  split
  · exact .refused s _
  · split_ifs with hf ho hs
    · exact .refused s _
    · exact .refused s _
    · exact .done h (.held s _ b hs) _
    · exact .refused s _

theorem answer_reclaimOwn (id : Byte) : Answer p s (s.reclaimOwn p id) := by
  unfold State.reclaimOwn
  split
  · exact .refused s _
  · split_ifs with hf ho hs
    · exact .refused s _
    · exact .refused s _
    · exact .done h (.reclaim s _ hs) _
    · exact .refused s _

theorem answer_sendOwn {dest cls report : Byte} {tag lifetime : Half} {declared : Byte}
    {payload : List Byte} :
    Answer p s (s.sendOwn p (sendFields dest cls report tag lifetime declared payload)) := by
  unfold State.sendOwn
  split_ifs with hm
  · exact .refused s _
  · have hrun : s.mode = .running := by
      cases hmode : s.mode with
      | running => rfl
      | testing => exact absurd hmode hm
      | fault => exact absurd hmode h.mode
    split
    · exact .refused s _
    · next f hf =>
      obtain ⟨hpay, -, hlen⟩ := sendFields_some hf
      split
      · exact .refused s _
      · next ha => exact .done h (.send s f _ _ hrun (by rw [hpay]; exact hlen) ha) _

theorem answer_cancelOwn (tag : Half) : Answer p s (s.cancelOwn p tag) := by
  unfold State.cancelOwn
  split
  · exact .refused s _
  · split
    · exact .refused s _
    · next d hd =>
      exact .effect s _ h (.cancel s _ d hd) (cancelAt_done _ _ _)

theorem answer_setEventsOwn (e : Byte) : Answer p s (s.setEventsOwn p e) := by
  unfold State.setEventsOwn
  split
  · exact .refused s _
  · exact .done h (.setEvents s _) _

theorem answer_configureOwn (mark limit : Half) : Answer p s (s.configureOwn mark limit) := by
  unfold State.configureOwn
  split
  · exact .done h (.configure s _ _) _
  · exact .refused s _

theorem answer_groupDefineOwn (gid policy : Byte) : Answer p s (s.groupDefineOwn gid policy) := by
  unfold State.groupDefineOwn
  split
  · next g pol _ _ =>
    refine .done h (.group s g _ (.inl ?_)) _
    cases hp : (s.grp g).policy <;> simp
  · exact .refused s _

theorem answer_groupAddOwn (gid id : Byte) : Answer p s (s.groupAddOwn gid id) := by
  unfold State.groupAddOwn
  split
  · split_ifs with h1 h2 h3 h4 h5
    · exact .refused s _
    · exact .refused s _
    · exact .refused s _
    · exact .refused s _
    · exact .refused s _
    · exact .done h (.group s _ _ (.inr ⟨_, rfl, h1, h4, h5, h2, h3⟩)) _
  · exact .refused s _

theorem answer_groupRemoveOwn (gid id : Byte) : Answer p s (s.groupRemoveOwn gid id) := by
  unfold State.groupRemoveOwn
  split
  · split_ifs with h1 h2
    · exact .refused s _
    · exact .done h (.group s _ _ (.inl ⟨List.filter_sublist, fun hn => absurd hn h1⟩)) _
    · exact .refused s _
  · exact .refused s _

theorem answer_groupDeleteOwn (gid : Byte) : Answer p s (s.groupDeleteOwn gid) := by
  unfold State.groupDeleteOwn
  split
  · split_ifs with h1
    · exact .refused s _
    · exact .done h (.group s _ _ (.inl ⟨List.nil_sublist _, fun _ => rfl⟩)) _
  · exact .refused s _

theorem answer_clearOwn : Answer p s s.clearOwn := by
  unfold State.clearOwn
  split_ifs with hm
  · exact .refused s _
  · exact .done h (.clear s hm) _

theorem answer_retestOwn : Answer p s s.retestOwn := by
  unfold State.retestOwn
  split_ifs with hm hl
  · exact .refused s _
  · exact .refused s _
  · refine .effect s _ h (.retest s hm fun d => ?_) (ReplyState.done_deferred _)
    have hnil : s.descriptors.indices (·.isSome) = [] := by simpa [State.anyLive] using hl
    have hd : d ∉ s.descriptors.indices (·.isSome) := by rw [hnil]; simp
    rw [Table.mem_indices] at hd
    exact Option.not_isSome_iff_eq_none.1 hd

end

/-- The principal check (R120). -/
theorem answer_ofPrincipal {own : State → State × ReplyState} (ho : Answer p s (own s)) :
    Answer p s (ofPrincipal p own s) := by
  unfold ofPrincipal
  split
  · exact ho
  · exact .refused s _

/-! ### The stages of a command -/

/-- What a command frame comes to on a port that hears: an answer, and its reply posted. -/
def Comes (p : PortId) (kind seq : Byte) (s t : State) : Prop :=
  ∃ r, Answer p s r ∧ t = r.1.updPort p (·.post { kind := kind, seq := seq, state := r.2 })

/-- A session command's frame comes to a refusal, or the port serves and the command to what its own checks
say (R121, R173). -/
theorem comes_takeCommand {own : State → State × ReplyState} {kind : Byte} (seq : Byte)
    (hh : Hears s p) (ha : kind ≠ Kind.attach) (hq : kind ≠ Kind.queryPool)
    (ho : Serves s p → Answer p s (own s)) :
    Comes p kind seq s (s.takeCommand p kind seq own) := by
  rw [State.takeCommand, takeFrame_hears hh]
  refine ⟨_, ?_, rfl⟩
  split
  · exact .refused s _
  · next hst =>
    unfold State.stageRefusal at hst
    split_ifs at hst with h1 h2
    refine ho ⟨hh.awake, ?_, hh.slot, fun hm => h1 ⟨hm, hq⟩⟩
    cases hs : (s.port p).session with
    | up => rfl
    | down => exact absurd hs hh.notDown
    | announced => exact absurd ⟨hs, ha, hq⟩ h2

/-- ATTACH and QUERY_POOL pass the session stage (R121). -/
theorem comes_unattached {own : State → State × ReplyState} {kind : Byte} (seq : Byte)
    (hh : Hears s p) (ho : (s.mode = .fault → kind = Kind.queryPool) → Answer p s (own s)) :
    Comes p kind seq s (s.takeCommand p kind seq own) := by
  rw [State.takeCommand, takeFrame_hears hh]
  refine ⟨_, ?_, rfl⟩
  split
  · exact .refused s _
  · next hst =>
    unfold State.stageRefusal at hst
    split_ifs at hst with h1 h2
    exact ho fun hm => not_not.1 fun hk => h1 ⟨hm, hk⟩

/-- A malformed frame is refused (R147). -/
theorem comes_takeMalformed {kind : Byte} (seq : Byte) (hh : Hears s p) :
    Comes p kind seq s (s.takeMalformed p kind seq) := by
  rw [State.takeMalformed, takeFrame_hears hh]
  exact ⟨_, .refused s _, rfl⟩

/-- An event's outcome while RESETn is high. -/
theorem Comes.of_event {kind seq : Byte} {c : Instr} {g : State → State} (hh : Hears s p)
    (hx : exec c s = .next t) (hc : exec c s = event g s) (h : Comes p kind seq s (g s)) :
    Comes p kind seq s t := by
  rw [hc, event_awake g hh.awake] at hx
  cases hx
  exact h

/-- Every command frame of a host comes to an answer (R121, R147, R151). -/
theorem comes_exec {c : Instr} {kind seq : Byte} {body : List Byte}
    (hf : encodeFrame c = some ⟨p, kind, seq, body⟩) (ha : kind ≠ Kind.accept)
    (hd : kind ≠ Kind.decline) (hh : Hears s p) (hx : exec c s = .next t) :
    Comes p kind seq s t := by
  cases c <;> cases hf
  case attach w e =>
    refine .of_event hh hx (exec_attach ..) ?_
    exact comes_unattached seq hh fun hm => answer_attachOwn (fun h => absurd (hm h) (by decide)) w e
  case detach =>
    refine .of_event hh hx (exec_detach ..) ?_
    exact comes_takeCommand seq hh (by decide) (by decide) fun h => .done h (.detach s) _
  case openMailbox id depth win retry mark =>
    refine .of_event hh hx (exec_openMailbox ..) ?_
    exact comes_takeCommand seq hh (by decide) (by decide) fun h => answer_openOwn h ..
  case close id =>
    refine .of_event hh hx (exec_close ..) ?_
    exact comes_takeCommand seq hh (by decide) (by decide) fun h => answer_closeOwn h ..
  case hold id =>
    refine .of_event hh hx (exec_hold ..) ?_
    exact comes_takeCommand seq hh (by decide) (by decide) fun h => answer_setHeldOwn h ..
  case resume id =>
    refine .of_event hh hx (exec_resume ..) ?_
    exact comes_takeCommand seq hh (by decide) (by decide) fun h => answer_setHeldOwn h ..
  case reclaim id =>
    refine .of_event hh hx (exec_reclaim ..) ?_
    exact comes_takeCommand seq hh (by decide) (by decide) fun h => answer_reclaimOwn h ..
  case queryMailbox id =>
    refine .of_event hh hx (exec_queryMailbox ..) ?_
    refine comes_takeCommand seq hh (by decide) (by decide) fun _ => ?_
    unfold State.queryMailboxOwn
    split
    · exact .refused s _
    · exact .read s _
  case send dest cls rep tag life len payload =>
    refine .of_event hh hx (exec_send ..) ?_
    split
    · exact comes_takeCommand seq hh (by decide) (by decide) fun h => answer_sendOwn h
    · exact comes_takeMalformed seq hh
  case cancel tag =>
    refine .of_event hh hx (exec_cancel ..) ?_
    exact comes_takeCommand seq hh (by decide) (by decide) fun h => answer_cancelOwn h ..
  case setEvents e =>
    refine .of_event hh hx (exec_setEvents ..) ?_
    exact comes_takeCommand seq hh (by decide) (by decide) fun h => answer_setEventsOwn h ..
  case readEvents =>
    refine .of_event hh hx (exec_readEvents ..) ?_
    exact comes_takeCommand seq hh (by decide) (by decide) fun h => .done h (.readEvents s) _
  case queryPool =>
    refine .of_event hh hx (exec_queryPool ..) ?_
    exact comes_unattached seq hh fun _ => .read s _
  case queryPort w =>
    refine .of_event hh hx (exec_queryPort ..) ?_
    refine comes_takeCommand seq hh (by decide) (by decide) fun _ => ?_
    unfold State.queryPortOwn
    split
    · exact .refused s _
    · exact .read s _
  case configure m d =>
    refine .of_event hh hx (exec_configure ..) ?_
    exact comes_takeCommand seq hh (by decide) (by decide) fun h =>
      answer_ofPrincipal (answer_configureOwn h ..)
  case groupDefine g pol =>
    refine .of_event hh hx (exec_groupDefine ..) ?_
    exact comes_takeCommand seq hh (by decide) (by decide) fun h =>
      answer_ofPrincipal (answer_groupDefineOwn h ..)
  case groupAdd g m =>
    refine .of_event hh hx (exec_groupAdd ..) ?_
    exact comes_takeCommand seq hh (by decide) (by decide) fun h =>
      answer_ofPrincipal (answer_groupAddOwn h ..)
  case groupRemove g m =>
    refine .of_event hh hx (exec_groupRemove ..) ?_
    exact comes_takeCommand seq hh (by decide) (by decide) fun h =>
      answer_ofPrincipal (answer_groupRemoveOwn h ..)
  case groupDelete g =>
    refine .of_event hh hx (exec_groupDelete ..) ?_
    exact comes_takeCommand seq hh (by decide) (by decide) fun h =>
      answer_ofPrincipal (answer_groupDeleteOwn h ..)
  case forceClose id =>
    refine .of_event hh hx (exec_forceClose ..) ?_
    exact comes_takeCommand seq hh (by decide) (by decide) fun h =>
      answer_ofPrincipal (answer_forceCloseOwn h ..)
  case clear =>
    refine .of_event hh hx (exec_clear ..) ?_
    exact comes_takeCommand seq hh (by decide) (by decide) fun h =>
      answer_ofPrincipal (answer_clearOwn h)
  case retest =>
    refine .of_event hh hx (exec_retest ..) ?_
    exact comes_takeCommand seq hh (by decide) (by decide) fun h =>
      answer_ofPrincipal (answer_retestOwn h)
  case accept => exact absurd rfl ha
  case decline => exact absurd rfl hd

/-- Settles O4: of the answers a command can come to, only a refusal is READY with another status than OK
and PARTIAL, and a refusal has no results and leaves the state as it was. -/
theorem refusalChangesNothing : Obligations.RefusalChangesNothing := by
  intro c f s t st res hf ha hd hh hx hlast hok hpart
  obtain ⟨r, hr, rfl⟩ := comes_exec hf ha hd hh hx
  have hst : r.2 = .ready st res := by
    rw [State.port_updPort_self, Port.post_replies, List.getLast?_append] at hlast
    simpa using hlast
  cases hr with
  | refused =>
    cases hst
    exact ⟨rfl, rfl⟩
  | read => cases hst; exact absurd rfl hok
  | attached => cases hst; exact absurd rfl hok
  | effect _ _ _ hdone =>
    rcases hdone st res hst with h | h
    · exact absurd h hok
    · exact absurd h hpart

end Sys2Proof.Machine
end

section
namespace Sys2Proof.Machine

/-! ### What a step can do -/

/-- What one event can do to the state, RESETn high or low. The time base reached, and a byte's place in the
receiver, come before what the event does besides. -/
inductive Outcome : State → State → Prop
  | same (s) : Outcome s s
  | powerOn (s psel rate) : Outcome s (s.powerOn psel rate)
  | enterReset (s) : Outcome s s.enterReset
  | reach (s t n) (h : Outcome (s.reach n) t) : Outcome s t
  | receive (s t p r) (hp : (s.port p).session ≠ .down) (h : Outcome (s.setReceiver p r) t) :
      Outcome s t
  | drop (s p) (hp : (s.port p).session ≠ .down) : Outcome s (s.dropCommand p)
  | answer (s t p kind seq) (hh : Hears s p) (h : Comes p kind seq s t) : Outcome s t
  | stray (s p) : Outcome s (s.stray p)
  | resolve (s p e o) (he : e ∈ (s.port p).inFlight) :
      Outcome s (s.thenClose e (·.resolve e o))
  | unaccepted (s p e) (he : e ∈ (s.port p).inFlight) :
      Outcome s (s.thenClose e (·.nonAccepting e true))
  | select (s p) : Outcome s (s.select p)
  | expire (s i d) (hd : s.desc i = some d) :
      Outcome s ((s.resolveAll (s.queuedOf i) .expired).updDesc i fun x =>
        { x with deadline := none, expired := true })
  | dormancy (s m) (hm : (s.mbx m).state = .dormant) : Outcome s (s.freeDormant m)
  | breakStart (s p) : Outcome s (s.breakStarts p)
  | breakEnd (s p) : Outcome s (s.breakEnds p)
  | discard (s p) : Outcome s (s.discardFrame p)
  | arbitrate (s p) : Outcome s (s.arbitrate p)
  | lastByte (s p) : Outcome s (s.lastByteSent p)
  | idleEnd (s p) : Outcome s (s.stoppedIdleEnded p)
  | testEnd (s failed) (hm : s.mode = .testing) :
      Outcome s ((s.endTest failed).afterTest s.startUp)

variable {s t u : State} {p : PortId}

/-- An AWAITING offer found is one of the port's list (R76). -/
theorem findAwaiting_mem {id : Byte} {e : EntryId} {n : Nat}
    (h : s.findAwaiting p id = some (e, n)) : e ∈ (s.port p).inFlight := by
  obtain ⟨f, hf, hm⟩ := Option.bind_eq_some_iff.1 h
  obtain ⟨k, -, hk⟩ := Option.map_eq_some_iff.1 hm
  cases hk
  exact List.mem_of_find?_eq_some hf

/-- An answer of a host is ignored, stray, or acts on an offer in flight (R75, R76). -/
theorem outcome_takeAnswer {id : Byte} {act : EntryId → State}
    (h : ∀ e ∈ (s.port p).inFlight, Outcome s (act e)) : Outcome s (s.takeAnswer p id act) := by
  unfold State.takeAnswer
  split
  · exact .same s
  · exact .stray s p
  · split
    · next hf => exact h _ (findAwaiting_mem hf)
    · exact .stray s p

/-- A command frame is ignored or dropped, or a port that hears takes it (R121, R147, R157). -/
theorem outcome_takeFrame {kind seq : Byte} {own : State → State × ReplyState}
    (hr : s.inReset = false)
    (h : Hears s p → Outcome s (s.takeFrame p kind seq own)) :
    Outcome s (s.takeFrame p kind seq own) := by
  by_cases hd : (s.port p).session = .down
  · rw [takeFrame_down hd]
    exact .same s
  · by_cases hf : 4 ≤ (s.port p).replies.length
    · rw [takeFrame_full hd hf]
      exact .drop s p hd
    · exact h ⟨hr, hd, Nat.not_le.1 hf⟩

/-- What an event does (R175). -/
theorem outcome_event {c : Instr} {g : State → State} (hx : exec c s = .next t)
    (hc : exec c s = event g s) (h : s.inReset = false → Outcome s (g s)) : Outcome s t := by
  rw [hc] at hx
  cases hr : s.inReset with
  | true =>
    rw [event_inReset g hr] at hx
    cases hx
    exact .same s
  | false =>
    rw [event_awake g hr] at hx
    cases hx
    exact h hr

/-- What the frame of a command does (R121, R147, R157). -/
theorem outcome_command {c : Instr} {kind seq : Byte} {body : List Byte}
    {own : State → State × ReplyState} (hf : encodeFrame c = some ⟨p, kind, seq, body⟩)
    (ha : kind ≠ Kind.accept) (hd : kind ≠ Kind.decline) (hx : exec c s = .next t)
    (hc : exec c s = event (fun s => s.takeFrame p kind seq own) s) : Outcome s t :=
  outcome_event hx hc fun hr => outcome_takeFrame hr fun hh =>
    .answer s _ p kind seq hh (comes_exec hf ha hd hh (hc.trans (event_awake _ hr)))

/-- The time base of a message's expiry is reached, and its QUEUED entries expire (R93). -/
theorem outcome_lifetimeExpires (i : DescId) : Outcome s (s.lifetimeExpires i) := by
  unfold State.lifetimeExpires
  split
  · exact .same s
  · next d hd =>
    split
    · exact .same s
    · next n _ => exact .reach s _ n (.expire (s.reach n) i d hd)

/-- The time base of a mailbox's dormancy is reached, and it is freed (R43). -/
theorem outcome_dormancyExpires (m : MailboxId) : Outcome s (s.dormancyExpires m) := by
  unfold State.dormancyExpires
  split
  · next n hm _ => exact .reach s _ n (.dormancy (s.reach n) m hm)
  · exact .same s

/-- The time base of an ack deadline is reached, and the offer goes unaccepted (R80). -/
theorem outcome_ackExpires (p : PortId) (id : Byte) : Outcome s (s.ackExpires p id) := by
  unfold State.ackExpires
  split
  · next e n hf => exact .reach s _ n (.unaccepted (s.reach n) p e (findAwaiting_mem hf))
  · exact .same s

/-- A DECLINE ends the offer or sends it to the table (R78). -/
theorem outcome_decline (p : PortId) (id requeue : Byte) : Outcome s (s.decline p id requeue) := by
  refine outcome_takeAnswer fun e he => ?_
  split
  · exact .resolve s p e _ he
  · exact .unaccepted s p e he
  · exact .stray s p

/-- The frame discarded, or nothing measured in HUNT (R145, R146). -/
theorem outcome_gapExpired (p : PortId) : Outcome s (s.gapExpired p) := by
  unfold State.gapExpired
  split
  · exact .same s
  · exact .discard s p

/-- A SEND with a body that is no SEND's is MALFORMED (R151). -/
theorem outcome_takeMalformed (hr : s.inReset = false) (p : PortId) (kind seq : Byte) :
    Outcome s (s.takeMalformed p kind seq) :=
  outcome_takeFrame hr fun hh => .answer s _ p kind seq hh (comes_takeMalformed seq hh)

/-- What a test end does: nothing without a test in progress (R172, R177). -/
theorem outcome_testEnds (failed : List BufferId) : Outcome s (s.testEnds failed) := by
  by_cases hm : s.mode = .testing
  · have : s.testEnds failed = (s.endTest failed).afterTest s.startUp := by
      simp only [State.testEnds, if_pos hm, State.endTest, (tested_applyTest s failed).goodCount]
    rw [this]
    exact .testEnd s failed hm
  · rw [State.testEnds, if_neg hm]
    exact .same s

/-- What each row but BYTE_TAKEN can do. -/
theorem outcome_exec {c : Instr} (hc : ∀ p b, c ≠ .byteTaken p b) (hx : exec c s = .next t) :
    Outcome s t := by
  cases c with
  | attach => exact outcome_command rfl (by decide) (by decide) hx (exec_attach ..)
  | detach => exact outcome_command rfl (by decide) (by decide) hx (exec_detach ..)
  | openMailbox => exact outcome_command rfl (by decide) (by decide) hx (exec_openMailbox ..)
  | close => exact outcome_command rfl (by decide) (by decide) hx (exec_close ..)
  | hold => exact outcome_command rfl (by decide) (by decide) hx (exec_hold ..)
  | resume => exact outcome_command rfl (by decide) (by decide) hx (exec_resume ..)
  | reclaim => exact outcome_command rfl (by decide) (by decide) hx (exec_reclaim ..)
  | queryMailbox => exact outcome_command rfl (by decide) (by decide) hx (exec_queryMailbox ..)
  | send p seq dest cls report tag lifetime declared payload =>
    refine outcome_event hx (exec_send ..) fun hr => ?_
    split
    · next hl =>
      refine outcome_takeFrame hr fun hh => .answer s _ p Kind.send seq hh ?_
      exact comes_takeCommand seq hh (by decide) (by decide) fun h => answer_sendOwn h
    · exact outcome_takeMalformed hr ..
  | cancel => exact outcome_command rfl (by decide) (by decide) hx (exec_cancel ..)
  | setEvents => exact outcome_command rfl (by decide) (by decide) hx (exec_setEvents ..)
  | readEvents => exact outcome_command rfl (by decide) (by decide) hx (exec_readEvents ..)
  | queryPool => exact outcome_command rfl (by decide) (by decide) hx (exec_queryPool ..)
  | queryPort => exact outcome_command rfl (by decide) (by decide) hx (exec_queryPort ..)
  | configure => exact outcome_command rfl (by decide) (by decide) hx (exec_configure ..)
  | groupDefine => exact outcome_command rfl (by decide) (by decide) hx (exec_groupDefine ..)
  | groupAdd => exact outcome_command rfl (by decide) (by decide) hx (exec_groupAdd ..)
  | groupRemove => exact outcome_command rfl (by decide) (by decide) hx (exec_groupRemove ..)
  | groupDelete => exact outcome_command rfl (by decide) (by decide) hx (exec_groupDelete ..)
  | forceClose => exact outcome_command rfl (by decide) (by decide) hx (exec_forceClose ..)
  | clear => exact outcome_command rfl (by decide) (by decide) hx (exec_clear ..)
  | retest => exact outcome_command rfl (by decide) (by decide) hx (exec_retest ..)
  | accept p =>
    exact outcome_event hx (exec_accept ..) fun _ => outcome_takeAnswer fun e he =>
      .resolve s p e _ he
  | decline => exact outcome_event hx (exec_decline ..) fun _ => outcome_decline ..
  | selection p => exact outcome_event hx (exec_selection ..) fun _ => .select s p
  | ackDeadlineExpiry =>
    exact outcome_event hx (exec_ackDeadlineExpiry ..) fun _ => outcome_ackExpires ..
  | lifetimeExpiry i =>
    exact outcome_event hx (exec_lifetimeExpiry ..) fun _ => outcome_lifetimeExpires i
  | dormancyExpiry m =>
    exact outcome_event hx (exec_dormancyExpiry ..) fun _ => outcome_dormancyExpires m
  | breakStart p => exact outcome_event hx (exec_breakStart ..) fun _ => .breakStart s p
  | breakEnd p => exact outcome_event hx (exec_breakEnd ..) fun _ => .breakEnd s p
  | frameDiscard p => exact outcome_event hx (exec_frameDiscard ..) fun _ => .discard s p
  | gapExpiry p => exact outcome_event hx (exec_gapExpiry ..) fun _ => outcome_gapExpired p
  | malformed => exact outcome_event hx (exec_malformed ..) fun hr => outcome_takeMalformed hr ..
  | arbiterBeginFrame p =>
    exact outcome_event hx (exec_arbiterBeginFrame ..) fun _ => .arbitrate s p
  | frameLastByteSent p =>
    exact outcome_event hx (exec_frameLastByteSent ..) fun _ => .lastByte s p
  | stoppedFrameIdleEnd p =>
    exact outcome_event hx (exec_stoppedFrameIdleEnd ..) fun _ => .idleEnd s p
  | powerOn psel rate =>
    rw [exec_powerOn] at hx
    cases hx
    exact .powerOn s psel rate
  | resetAsserted =>
    rw [exec_resetAsserted] at hx
    cases hx
    exact .enterReset s
  | testEnd failed => exact outcome_event hx (exec_testEnd ..) fun _ => outcome_testEnds failed
  | byteTaken p b => exact absurd rfl (hc p b)

/-- A good frame's row means what the row means, or nothing (R147). -/
theorem deliver_cases (i : Instr) (s : State) :
    deliver i s = .next s ∨ ((∀ p b, i ≠ .byteTaken p b) ∧ deliver i s = exec i s) := by
  cases i <;> simp [deliver, exec]

/-- What each row can do. -/
theorem outcome_of_exec {c : Instr} (hx : exec c s = .next t) : Outcome s t := by
  by_cases hc : ∀ p b, c ≠ .byteTaken p b
  · exact outcome_exec hc hx
  · simp only [not_forall, not_not] at hc
    obtain ⟨p, b, rfl⟩ := hc
    have hx' : execByteTaken p b s = .next t := hx
    unfold execByteTaken at hx'
    split at hx'
    · cases hx'
      exact .same s
    · next hn =>
      obtain ⟨-, hp⟩ := not_or.1 hn
      split at hx'
      · cases hx'
        exact .receive s _ p _ hp (.same _)
      · cases hx'
        exact .discard s p
      · next kind seq body _ =>
        refine .receive s t p .hunt hp ?_
        rcases deliver_cases (decodeFrame p kind seq body) (s.setReceiver p .hunt) with h | ⟨hi, h⟩
        · rw [h] at hx'
          cases hx'
          exact .same _
        · rw [h] at hx'
          exact outcome_exec hi hx'

/-- What a step can do: the outcome of the command at the front, the queue without it, or an advance of the
time base. -/
theorem outcome_of_step (hx : step s = .next t) : ∃ rest, Outcome { s with pending := rest } t := by
  unfold step at hx
  split at hx
  · next hp =>
    have hs : { s with pending := [] } = s := by rw [← hp]
    refine ⟨[], ?_⟩
    rw [hs]
    cases hx
    unfold State.tick
    split
    · exact .same s
    · refine .reach s _ (s.now + 1) ?_
      have : s.reach (s.now + 1) = { s with now := s.now + 1 } := by
        rw [State.reach, Nat.max_eq_right (Nat.le_succ _)]
      rw [← this]
      exact .same _
  · next rest _ => exact ⟨rest, outcome_of_exec hx⟩

end Sys2Proof.Machine
end

section
namespace Sys2Proof.Machine

/-! ### What a step does to the messages and the buffer pool

The laws of the tags, of the pool's account and of its bytes speak of descriptors, buffers, bytes and pool-low
arming alone. Every act is a chain of the few changes of these named here. -/

/-- The same messages, pool and arming. -/
def SamePool (s t : State) : Prop :=
  t.descriptors = s.descriptors ∧ t.buffers = s.buffers ∧ t.mem = s.mem ∧
    t.poolArmed = s.poolArmed ∧ t.lowMark = s.lowMark ∧ t.startUp = s.startUp

/-- What the tag law and the pool's account say of a message. -/
def Descriptor.identity (d : Descriptor) :
    PortId × BitVec 16 × BitVec 16 × Nat × List BufferId :=
  (d.senderPort, d.senderEpoch, d.tag, d.length, d.buffers)

/-- A chain of changes of messages and pool. `idle` says that a test ends with no message LIVE. -/
inductive PoolChange (idle : Prop) : State → State → Prop
  | same (s t) (h : SamePool s t) : PoolChange idle s t
  | message (s i x y) (hx : s.desc i = some x) (h : y.identity = x.identity) :
      PoolChange idle s (s.setDesc i (some y))
  | complete (s i d) (hd : s.desc i = some d) : PoolChange idle s (s.completeMessage i d)
  | allocate (s p f ts k) (hlen : f.payload.length ≤ Config.maxPayload)
      (h : s.admission p f = .ok (ts, k)) : PoolChange idle s (s.allocate p f ts k)
  | configure (s) (mark limit : Nat) : PoolChange idle s
      ({ s with lowMark := mark, dormancyLimit := limit } : State).evalPool
  | clear (s) : PoolChange idle s s.emptied.evalPool
  | test (s failed) (h : idle → ∀ d, s.desc d = none) : PoolChange idle s (s.endTest failed)
  | reset (s t) (hd : ∀ d, t.desc d = none) (hb : ∀ b, t.buffers.get b = .retired)
      (hm : t.mem = []) (hs : t.startUp = true) : PoolChange idle s t
  | trans (s t u) (h : PoolChange idle s t) (k : PoolChange idle t u) : PoolChange idle s u

variable {s t u : State} {p : PortId} {idle : Prop}

/-! ### Resolutions, closes and session ends -/

theorem SamePool.of_registers (hd : t.descriptors = s.descriptors) (hb : t.buffers = s.buffers)
    (hm : t.mem = s.mem) (ha : t.poolArmed = s.poolArmed) (hr : t.registers = s.registers) :
    SamePool s t := by
  obtain ⟨-, -, -, -, hs, -, hl, -⟩ := State.registers_fields hr
  exact ⟨hd, hb, hm, ha, hl, hs⟩

/-- An act that leaves messages and pool as they are. -/
theorem PoolChange.quiet (h : SamePool s t) : PoolChange idle s t := .same s t h

theorem PoolChange.refl (s : State) : PoolChange idle s s :=
  .quiet ⟨rfl, rfl, rfl, rfl, rfl, rfl⟩

theorem PoolChange.foldl {α : Type} {f : State → α → State} (as : List α)
    (h : ∀ s a, PoolChange idle s (f s a)) (s : State) : PoolChange idle s (as.foldl f s) := by
  induction as generalizing s with
  | nil => exact .quiet ⟨rfl, rfl, rfl, rfl, rfl, rfl⟩
  | cons a rest ih => exact .trans s _ _ (h s a) (ih _)

theorem poolChange_updPort (s : State) (p : PortId) (f : Port → Port) :
    PoolChange idle s (s.updPort p f) :=
  .quiet ⟨rfl, rfl, rfl, rfl, rfl, rfl⟩

/-- A message's outcome counted, a flag set: any change that keeps its identity. -/
theorem poolChange_updDesc (s : State) (i : DescId) {f : Descriptor → Descriptor}
    (hf : ∀ x, (f x).identity = x.identity) : PoolChange idle s (s.updDesc i f) := by
  unfold State.updDesc
  cases h : s.desc i with
  | none =>
    refine .quiet ⟨?_, rfl, rfl, rfl, rfl, rfl⟩
    show s.descriptors.set i none = s.descriptors
    rw [← h]
    exact Table.set_get_self _ _
  | some x => exact .message s i x (f x) h (hf x)

theorem poolChange_evalLevel (s : State) (m : MailboxId) : PoolChange idle s (s.evalLevel m) :=
  .quiet (.of_registers (by simp) (by simp) (by simp) (by simp) (by simp))

theorem poolChange_completeIfDone (s : State) (i : DescId) :
    PoolChange idle s (s.completeIfDone i) := by
  unfold State.completeIfDone
  split
  · next d hd =>
    split
    · exact .complete s i d hd
    · exact .quiet ⟨rfl, rfl, rfl, rfl, rfl, rfl⟩
  · exact .quiet ⟨rfl, rfl, rfl, rfl, rfl, rfl⟩

theorem poolChange_resolve (s : State) (e : EntryId) (o : EntryOutcome) :
    PoolChange idle s (s.resolve e o) := by
  cases he : s.entry e with
  | none =>
    rw [State.resolve_none o he]
    exact .quiet ⟨rfl, rfl, rfl, rfl, rfl, rfl⟩
  | some en =>
    rw [State.resolve_some o he]
    refine .trans s (s.takeOut e en o) _ ?_ (.trans _ (s.countOut e en o) _
      (poolChange_evalLevel _ _) (poolChange_completeIfDone _ _))
    refine .trans s (((s.updMbx en.mailbox (·.release e o)).updPort (s.mbx en.mailbox).owner
      (·.leaveFlight e)).setEntry e none) _ (.quiet ⟨rfl, rfl, rfl, rfl, rfl, rfl⟩) ?_
    exact poolChange_updDesc _ _ fun _ => rfl

theorem poolChange_resolveAll (s : State) (es : List EntryId) (o : EntryOutcome) :
    PoolChange idle s (s.resolveAll es o) :=
  .foldl es (fun s e => poolChange_resolve s e o) s

theorem poolChange_nonAccepting (s : State) (e : EntryId) (b : Bool) :
    PoolChange idle s (s.nonAccepting e b) := by
  have same := PoolChange.refl (idle := idle) s
  unfold State.nonAccepting
  split
  · exact same
  · split
    · exact same
    · split
      · exact poolChange_resolve s e _
      · unfold State.requeue
        split
        · exact same
        · exact .quiet ⟨rfl, rfl, rfl, rfl, rfl, rfl⟩

/-- Acts on ports and mailboxes alone. -/
theorem OnlyPortsBoxes.poolChange (h : OnlyPortsBoxes s t) : PoolChange idle s t := by
  obtain ⟨-, hd, hb, hp, -, hm, hr⟩ := h.tables
  exact .quiet (.of_registers hd hb hm hp hr)

theorem poolChange_closeIfEmpty (s : State) (m : MailboxId) :
    PoolChange idle s (s.closeIfEmpty m) := by
  unfold State.closeIfEmpty
  split
  · exact (s.finishClose_spec m).1.poolChange
  · exact .quiet ⟨rfl, rfl, rfl, rfl, rfl, rfl⟩

theorem poolChange_thenClose (s : State) (e : EntryId) {act : State → State}
    (h : PoolChange idle s (act s)) : PoolChange idle s (s.thenClose e act) := by
  unfold State.thenClose
  split
  · exact .quiet ⟨rfl, rfl, rfl, rfl, rfl, rfl⟩
  · exact .trans _ _ _ h (poolChange_closeIfEmpty _ _)

theorem poolChange_endSession (s : State) (p : PortId) (c : EndCause) :
    PoolChange idle s (s.endSession p c) := by
  rw [State.endSession_eq, State.withdraw_eq]
  refine .trans _ _ _ (.foldl _ (fun s e => ?_) s) (State.leaveUp_only _ p c).poolChange
  exact .trans s (s.updEntry e fun en => { en with attempts := en.attempts - 1 }) _
    (.quiet ⟨rfl, rfl, rfl, rfl, rfl, rfl⟩) (poolChange_nonAccepting _ _ _)

theorem poolChange_tellOwner (s : State) (p : PortId) (m : MailboxId) :
    PoolChange idle s (s.tellOwner p m) := by
  unfold State.tellOwner
  split <;> exact .quiet ⟨rfl, rfl, rfl, rfl, rfl, rfl⟩

theorem poolChange_closeOpen (s : State) (p : PortId) (seq : Byte) (m : MailboxId) :
    PoolChange idle s (s.closeOpen p seq m).1 := by
  refine .trans s (s.beginClose m) _ (.quiet ⟨rfl, rfl, rfl, rfl, rfl, rfl⟩) (.trans _ _ _
    (poolChange_resolveAll _ ((s.beginClose m).queuedIn m) .purged) ?_)
  unfold State.closeOpen
  dsimp only
  split <;> exact .quiet ⟨rfl, rfl, rfl, rfl, rfl, rfl⟩

theorem poolChange_freeDormant (s : State) (m : MailboxId) : PoolChange idle s (s.freeDormant m) :=
  .trans _ _ _ (poolChange_resolveAll s (s.queuedIn m) .purged)
    (.quiet ⟨rfl, rfl, rfl, rfl, rfl, rfl⟩)

theorem poolChange_cancelAt (s : State) (i : DescId) (n : BitVec 32) :
    PoolChange idle s (s.cancelAt i n).1 := by
  refine .trans _ _ _ (poolChange_resolveAll s (s.queuedOf i) .cancelled) ?_
  unfold State.cancelAt
  dsimp only
  split
  · exact .quiet ⟨rfl, rfl, rfl, rfl, rfl, rfl⟩
  · next d hd => exact .message _ i d _ hd rfl

/-! ### Every act -/

/-- What a command's effect does to messages and pool. -/
theorem Effect.poolChange (h : Effect p s t) : PoolChange idle s t := by
  cases h with
  | detach => exact poolChange_endSession _ _ _
  | close => exact .trans _ _ _ (poolChange_tellOwner _ _ _) (poolChange_closeOpen _ _ _ _)
  | freed => exact .trans _ _ _ (poolChange_tellOwner _ _ _) (poolChange_freeDormant _ _)
  | send f ts k _ hlen hok => exact .allocate s p f ts k hlen hok
  | cancel => exact poolChange_cancelAt _ _ _
  | configure mark limit => exact .configure s mark limit
  | clear =>
    obtain ⟨⟨ps, h⟩, -⟩ := s.clearAll_spec
    rw [h]
    exact .trans _ _ _ (.clear s) (.quiet ⟨rfl, rfl, rfl, rfl, rfl, rfl⟩)
  | opened | held | reclaim | setEvents | readEvents | group | retest =>
    exact .quiet ⟨rfl, rfl, rfl, rfl, rfl, rfl⟩

theorem Answer.poolChange {r : State × ReplyState} (h : Answer p s r) : PoolChange idle s r.1 := by
  cases h with
  | effect _ _ e => exact e.poolChange
  | refused | read | attached => exact .quiet ⟨rfl, rfl, rfl, rfl, rfl, rfl⟩

/-- What the arbiter does to messages and pool: nothing (R159). -/
theorem samePool_arbitrate (s : State) (p : PortId) : SamePool s (s.arbitrate p) := by
  unfold State.arbitrate
  split <;> exact ⟨rfl, rfl, rfl, rfl, rfl, rfl⟩

theorem samePool_endFrame (s : State) (p : PortId) (f : Frame) : SamePool s (s.endFrame p f) := by
  cases f with
  | offer o =>
    unfold State.endFrame
    dsimp only
    split <;> exact ⟨rfl, rfl, rfl, rfl, rfl, rfl⟩
  | hello | reply | report | event => exact ⟨rfl, rfl, rfl, rfl, rfl, rfl⟩

theorem poolChange_lastByteSent (s : State) (p : PortId) : PoolChange idle s (s.lastByteSent p) := by
  unfold State.lastByteSent
  split
  · exact .trans _ _ _ (.quiet (samePool_endFrame s p _)) (.quiet (samePool_arbitrate _ p))
  · exact .quiet ⟨rfl, rfl, rfl, rfl, rfl, rfl⟩
  · exact .quiet ⟨rfl, rfl, rfl, rfl, rfl, rfl⟩

theorem poolChange_stoppedIdleEnded (s : State) (p : PortId) :
    PoolChange idle s (s.stoppedIdleEnded p) := by
  unfold State.stoppedIdleEnded
  split
  · exact .quiet (samePool_arbitrate _ p)
  · exact .quiet ⟨rfl, rfl, rfl, rfl, rfl, rfl⟩

theorem samePool_offerEntry (s : State) (p : PortId) (e : EntryId) :
    SamePool s (s.offerEntry p e) := by
  have same : SamePool s s := ⟨rfl, rfl, rfl, rfl, rfl, rfl⟩
  unfold State.offerEntry
  split
  · exact same
  · split
    · exact same
    · exact ⟨rfl, rfl, rfl, rfl, rfl, rfl⟩

theorem poolChange_select (s : State) (p : PortId) : PoolChange idle s (s.select p) := by
  have same := PoolChange.refl (idle := idle) s
  unfold State.select
  split
  · split
    · exact .quiet (samePool_offerEntry s p _)
    · exact same
  · exact same

theorem poolChange_breakStarts (s : State) (p : PortId) : PoolChange idle s (s.breakStarts p) := by
  unfold State.breakStarts
  dsimp only
  split
  · exact .quiet ⟨rfl, rfl, rfl, rfl, rfl, rfl⟩
  · split
    · exact .quiet ⟨rfl, rfl, rfl, rfl, rfl, rfl⟩
    · exact .quiet ⟨rfl, rfl, rfl, rfl, rfl, rfl⟩
    · exact .trans _ (s.updPort p fun x => { x with lineInBreak := true }) _
        (.quiet ⟨rfl, rfl, rfl, rfl, rfl, rfl⟩) (.trans _ _ _ (poolChange_endSession _ p .lineBreak)
          (poolChange_updPort _ p _))

theorem poolChange_breakEnds (s : State) (p : PortId) : PoolChange idle s (s.breakEnds p) := by
  unfold State.breakEnds
  split <;> exact .quiet ⟨rfl, rfl, rfl, rfl, rfl, rfl⟩

theorem poolChange_discardFrame (s : State) (p : PortId) : PoolChange idle s (s.discardFrame p) := by
  unfold State.discardFrame
  split <;> exact .quiet ⟨rfl, rfl, rfl, rfl, rfl, rfl⟩

theorem poolChange_endSessionAtFault (s : State) (p : PortId) :
    PoolChange idle s (s.endSessionAtFault p) := by
  unfold State.endSessionAtFault
  split
  · exact poolChange_endSession _ _ _
  · exact .quiet ⟨rfl, rfl, rfl, rfl, rfl, rfl⟩

theorem poolChange_freed (s : State) : PoolChange idle s s.freed :=
  .quiet ⟨rfl, rfl, rfl, rfl, rfl, rfl⟩

theorem poolChange_afterTest (s : State) (b : Bool) : PoolChange idle s (s.afterTest b) := by
  unfold State.afterTest
  split
  · exact .quiet ⟨rfl, rfl, rfl, rfl, rfl, rfl⟩
  · split
    · rw [State.faultTeardown_eq]
      exact .trans _ _ _ (.foldl _ poolChange_endSessionAtFault s) (poolChange_freed _)
    · exact .quiet ⟨rfl, rfl, rfl, rfl, rfl, rfl⟩

/-- Every outcome is a chain of the changes named above. -/
theorem Outcome.poolChange (h : Outcome s t)
    (hi : idle → s.mode = .testing → ∀ d, s.desc d = none) : PoolChange idle s t := by
  induction h with
  | same => exact .quiet ⟨rfl, rfl, rfl, rfl, rfl, rfl⟩
  | powerOn s =>
    exact .reset s _ (Table.get_replicate _) (Table.get_replicate _) rfl rfl
  | enterReset s =>
    exact .reset s _ (Table.get_replicate _) (Table.get_replicate _) rfl rfl
  | reach s t n _ ih =>
    exact .trans s (s.reach n) t (.quiet ⟨rfl, rfl, rfl, rfl, rfl, rfl⟩) (ih hi)
  | receive s t p r _ _ ih =>
    exact .trans s (s.setReceiver p r) t (.quiet ⟨rfl, rfl, rfl, rfl, rfl, rfl⟩) (ih hi)
  | answer s t p kind seq _ h =>
    obtain ⟨r, hr, rfl⟩ := h
    exact .trans _ _ _ hr.poolChange (.quiet ⟨rfl, rfl, rfl, rfl, rfl, rfl⟩)
  | resolve s p e o => exact poolChange_thenClose s e (poolChange_resolve s e o)
  | unaccepted s p e => exact poolChange_thenClose s e (poolChange_nonAccepting s e true)
  | select => exact poolChange_select _ _
  | expire s i =>
    exact .trans _ _ _ (poolChange_resolveAll s _ .expired) (poolChange_updDesc _ i fun _ => rfl)
  | dormancy => exact poolChange_freeDormant _ _
  | breakStart => exact poolChange_breakStarts _ _
  | breakEnd => exact poolChange_breakEnds _ _
  | discard => exact poolChange_discardFrame _ _
  | arbitrate => exact .quiet (samePool_arbitrate _ _)
  | lastByte => exact poolChange_lastByteSent _ _
  | idleEnd => exact poolChange_stoppedIdleEnded _ _
  | testEnd s failed hm =>
    exact .trans _ _ _ (.test s failed fun h => hi h hm) (poolChange_afterTest _ _)
  | drop | stray => exact .quiet ⟨rfl, rfl, rfl, rfl, rfl, rfl⟩

/-- Every step is a chain of the changes named above. -/
theorem poolChange_of_step (hx : step s = .next t)
    (hi : idle → s.mode = .testing → ∀ d, s.desc d = none) : PoolChange idle s t := by
  obtain ⟨rest, h⟩ := outcome_of_step hx
  exact .trans s { s with pending := rest } t (.quiet ⟨rfl, rfl, rfl, rfl, rfl, rfl⟩)
    (h.poolChange hi)

end Sys2Proof.Machine
end

section
namespace Sys2Proof.Machine

variable {s t u : State} {p : PortId} {idle : Prop}

/-! ### Allocation seen from messages and pool (R11) -/

theorem State.addEntry_pool (s : State) (i : DescId) (m : MailboxId) :
    SamePool s (s.addEntry i m) := by
  unfold State.addEntry
  split
  · exact ⟨rfl, rfl, rfl, rfl, rfl, rfl⟩
  · exact .of_registers (by simp) (by simp) (by simp) (by simp) (by simp)

theorem samePool_addEntries (i : DescId) (ts : List MailboxId) (s : State) :
    SamePool s (ts.foldl (fun u m => u.addEntry i m) s) := by
  induction ts generalizing s with
  | nil => exact ⟨rfl, rfl, rfl, rfl, rfl, rfl⟩
  | cons m rest ih =>
    obtain ⟨a, b, c, d, e, f⟩ := s.addEntry_pool i m
    obtain ⟨a', b', c', d', e', f'⟩ := ih (s.addEntry i m)
    exact ⟨a'.trans a, b'.trans b, c'.trans c, d'.trans d, e'.trans e, f'.trans f⟩

/-- What a SEND that passes its checks finds: a tag not in use, a FREE descriptor and buffers enough (R10). -/
theorem admission_found {f : SendFields} {ts : List MailboxId} {k : Nat}
    (h : s.admission p f = .ok (ts, k)) :
    s.findTag p (s.port p).epoch f.tag = none ∧ s.targets f.dest = .ok (ts, k) ∧
      s.freeDescriptors ≠ 0 ∧ ts.length ≤ s.freeEntries ∧
      buffersFor f.payload.length ≤ s.freeBuffers := by
  unfold State.admission at h
  split at h
  · cases h
  · next ht =>
    split at h
    · cases h
    · next hts =>
      split at h
      · cases h
      · next hs =>
        cases h
        refine ⟨Option.not_isSome_iff_eq_none.1 ht, hts, ?_⟩
        unfold State.shortfall at hs
        split_ifs at hs with h1 h2 h3
        exact ⟨h1, Nat.not_lt.1 h2, Nat.not_lt.1 h3⟩

/-- An accepted SEND makes one FREE descriptor LIVE and leaves the others (R2). -/
theorem desc_allocate {i : DescId} (hi : s.descriptors.first (·.isNone) = some i) (p : PortId)
    (f : SendFields) (ts : List MailboxId) (k : Nat) (j : DescId) :
    (s.allocate p f ts k).desc j =
      if j = i then some (s.newDescriptor p f (s.takeable (buffersFor f.payload.length)) ts.length k)
      else s.desc j := by
  rw [State.allocate_some hi, State.desc_evalPool]
  have h := (samePool_addEntries i ts (s.takeIn p f ts.length k i)).1
  exact (congrArg (·.get j) h).trans (Table.get_set _ _ _ _)

/-- An accepted SEND takes its buffers (R6). -/
theorem buffers_allocate {i : DescId} (hi : s.descriptors.first (·.isNone) = some i) (p : PortId)
    (f : SendFields) (ts : List MailboxId) (k : Nat) (b : BufferId) :
    (s.allocate p f ts k).buffers.get b =
      if b ∈ s.takeable (buffersFor f.payload.length) then .inUse else s.buffers.get b := by
  rw [State.allocate_some hi, State.evalPool_buffers,
    (samePool_addEntries i ts (s.takeIn p f ts.length k i)).2.1]
  exact State.get_moveBuffers _ _ _ b

/-- An accepted SEND writes its payload (R7). -/
theorem mem_allocate {i : DescId} (hi : s.descriptors.first (·.isNone) = some i) (p : PortId)
    (f : SendFields) (ts : List MailboxId) (k : Nat) :
    (s.allocate p f ts k).mem =
      s.mem.writePayload (s.takeable (buffersFor f.payload.length)) 0 f.payload := by
  rw [State.allocate_some hi, State.evalPool_mem,
    (samePool_addEntries i ts (s.takeIn p f ts.length k i)).2.2.1]
  rfl

/-! ### The bytes of the pool (log 10) -/

theorem PoolChange.memory (h : PoolChange idle s t) (hw : s.mem.wf = true) : t.mem.wf = true := by
  induction h with
  | same s t h => rw [h.2.2.1]; exact hw
  | message => exact hw
  | complete s i d => rw [State.completeMessage_mem]; exact hw
  | allocate s p f ts k _ hok =>
    obtain ⟨i, hi⟩ := exists_free_desc (admission_found hok).2.2.1
    rw [mem_allocate hi]
    exact Memory.wf_writePayload _ 0 _ hw
  | configure => rw [State.evalPool_mem]; exact hw
  | clear => rw [State.evalPool_mem]; exact hw
  | test s failed => rw [(tested_endTest s failed).mem]; exact hw
  | reset s t _ _ hm => rw [hm]; rfl
  | trans s t u _ _ ih ik => exact ik (ih hw)

/-- Settles O58: the one act that writes a byte of the pool is an accepted SEND. -/
theorem stepKeepsTheMemoryForm : Obligations.StepKeepsTheMemoryForm := fun _ _ hw hx =>
  (poolChange_of_step (idle := False) hx fun h => absurd h id).memory hw

/-! ### Distinct tags (R3) -/

/-- The tag law speaks of the messages' identities alone. -/
theorem tagsDistinct_of_identity (h : s.tagsDistinct)
    (ht : ∀ i y, t.desc i = some y → ∃ x, s.desc i = some x ∧ y.identity = x.identity) :
    t.tagsDistinct := by
  intro i j x y hx hy hp he htag
  obtain ⟨x', hx', hix⟩ := ht i x hx
  obtain ⟨y', hy', hiy⟩ := ht j y hy
  simp only [Descriptor.identity, Prod.mk.injEq] at hix hiy
  obtain ⟨a, b, c, -⟩ := hix
  obtain ⟨a', b', c', -⟩ := hiy
  exact h i j x' y' hx' hy' (by rw [← a, ← a', hp]) (by rw [← b, ← b', he])
    (by rw [← c, ← c', htag])

/-- A message that is not replaced or removed is the one there was. -/
theorem identity_setDesc {i : DescId} {x y : Descriptor} (hx : s.desc i = some x)
    (h : y.identity = x.identity) (j : DescId) {z : Descriptor}
    (hz : (s.setDesc i (some y)).desc j = some z) :
    ∃ w, s.desc j = some w ∧ z.identity = w.identity := by
  by_cases hj : j = i
  · subst hj
    rw [State.desc_setDesc_self] at hz
    cases hz
    exact ⟨x, hx, h⟩
  · rw [State.desc_setDesc_ne _ _ hj] at hz
    exact ⟨z, hz, rfl⟩

/-- The messages after one completes. -/
theorem desc_completeMessage {i : DescId} {d : Descriptor} {j : DescId} {y : Descriptor}
    (h : (s.completeMessage i d).desc j = some y) : j ≠ i ∧ s.desc j = some y := by
  have hd : (s.completeMessage i d).desc j = (s.descriptors.set i none).get j :=
    congrArg (·.get j) (State.completeMessage_descriptors s i d)
  rw [hd, Table.get_set] at h
  split at h
  · cases h
  · next hj => exact ⟨hj, h⟩

theorem PoolChange.tags (h : PoolChange idle s t) (hl : s.tagsDistinct) : t.tagsDistinct := by
  have keep : ∀ {s t : State}, (∀ j, t.desc j = s.desc j) → s.tagsDistinct → t.tagsDistinct :=
    fun hd hs => tagsDistinct_of_identity hs fun i y hy => ⟨y, (hd i).symm.trans hy, rfl⟩
  induction h with
  | same s t h => exact keep (fun j => congrArg (·.get j) h.1) hl
  | message s i x y hx h => exact tagsDistinct_of_identity hl fun j z => identity_setDesc hx h j
  | complete s i d =>
    exact tagsDistinct_of_identity hl fun j y hy => ⟨y, (desc_completeMessage hy).2, rfl⟩
  | allocate s p f ts k _ hok =>
    obtain ⟨hfresh, -, hfree, -⟩ := admission_found hok
    obtain ⟨i, hi⟩ := exists_free_desc hfree
    have new : ∀ a b x, a = i → b ≠ i → s.desc b = some x → x.senderPort = p →
        x.senderEpoch = (s.port p).epoch → x.tag = f.tag → a = b := fun a b x _ _ hx hp he ht =>
      absurd ht (findTag_none.1 hfresh b x hx hp he)
    intro a b x y hx hy hp he ht
    rw [desc_allocate hi] at hx hy
    split at hx <;> split at hy
    · next ha hb => rw [ha, hb]
    · next ha hb =>
      cases hx
      exact new a b y ha hb hy hp.symm he.symm ht.symm
    · next ha hb =>
      cases hy
      exact (new b a x hb ha hx hp he ht).symm
    · exact hl a b x y hx hy hp he ht
  | configure => exact keep (fun j => State.desc_evalPool _ j) hl
  | clear s =>
    intro i j x y hx
    rw [State.desc_evalPool, show s.emptied.desc i = none from Table.get_replicate _ i] at hx
    cases hx
  | test s failed =>
    exact keep (fun j => congrArg (·.get j) (tested_endTest s failed).descriptors) hl
  | reset s t hd =>
    intro i j x y hx
    rw [hd] at hx
    cases hx
  | trans s t u _ _ ih ik => exact ik (ih hl)

/-- Settles O56: the one act that makes a message LIVE is an accepted SEND, whose check 3 found its tag not in
use. -/
theorem stepKeepsTagsDistinct : Obligations.StepKeepsTagsDistinct := fun _ _ hl hx =>
  (poolChange_of_step (idle := False) hx fun h => absurd h id).tags hl

/-! ### The buffer pool's account (R6, R7, R185) -/

/-- The account speaks of the messages' lists, the buffers and the arming alone. -/
theorem BufferLaw.of_identity (h : BufferLaw s)
    (ht : ∀ i y, t.desc i = some y → ∃ x, s.desc i = some x ∧ y.identity = x.identity)
    (hs : ∀ i x, s.desc i = some x → ∃ y, t.desc i = some y ∧ y.identity = x.identity)
    (hb : t.buffers = s.buffers)
    (ha : t.startUp = false → t.poolArmed = decide (t.lowMark ≤ t.freeBuffers)) : BufferLaw t := by
  have lists : ∀ {x y : Descriptor}, y.identity = x.identity →
      y.length = x.length ∧ y.buffers = x.buffers := fun {x y} hxy => by
    simp only [Descriptor.identity, Prod.mk.injEq] at hxy
    exact hxy.2.2.2
  constructor
  case held =>
    intro i y hy
    obtain ⟨x, hx, hxy⟩ := ht i y hy
    rw [(lists hxy).1, (lists hxy).2, hb]
    exact h.held i x hx
  case apart =>
    intro i j x y b hx hy hbx hby
    obtain ⟨x', hx', hxx⟩ := ht i x hx
    obtain ⟨y', hy', hyy⟩ := ht j y hy
    exact h.apart i j x' y' b hx' hy' ((lists hxx).2 ▸ hbx) ((lists hyy).2 ▸ hby)
  case used =>
    intro b hu
    obtain ⟨i, x, hx, hbx⟩ := h.used b (hb ▸ hu)
    obtain ⟨y, hy, hxy⟩ := hs i x hx
    exact ⟨i, y, hy, by rw [(lists hxy).2]; exact hbx⟩
  case arming => exact ha

/-- With no message LIVE and no buffer in use the account is empty. -/
theorem BufferLaw.of_empty (hd : ∀ d, t.desc d = none) (hb : ∀ b, t.buffers.get b ≠ .inUse)
    (ha : t.startUp = false → t.poolArmed = decide (t.lowMark ≤ t.freeBuffers)) : BufferLaw t where
  held i d h := by rw [hd] at h; cases h
  apart i j x y b h := by rw [hd] at h; cases h
  used b h := absurd h (hb b)
  arming := ha

/-- An evaluation of pool-low arming leaves the account and sets the arming (R19). -/
theorem arming_evalPool (s : State) :
    s.evalPool.poolArmed = decide (s.evalPool.lowMark ≤ s.evalPool.freeBuffers) := by
  rw [State.evalPool_armed, State.freeBuffers_evalPool,
    State.lowMark_of_registers (State.registers_evalPool s)]

/-- A completion gives the message's buffers back (R14). -/
theorem BufferLaw.completeMessage (h : BufferLaw s) {i : DescId} {d : Descriptor}
    (hd : s.desc i = some d) : BufferLaw (s.completeMessage i d) := by
  have hb := State.buffers_completeMessage s i d
  constructor
  case held =>
    intro j y hy
    obtain ⟨hj, hy⟩ := desc_completeMessage hy
    obtain ⟨hn, hl, hu⟩ := h.held j y hy
    refine ⟨hn, hl, fun b hby => ?_⟩
    rw [hb, if_neg fun hbd => hj (h.apart j i y d b hy hd hby hbd)]
    exact hu b hby
  case apart =>
    intro j k x y b hx hy
    exact h.apart j k x y b (desc_completeMessage hx).2 (desc_completeMessage hy).2
  case used =>
    intro b hu
    rw [hb] at hu
    split at hu
    · cases hu
    · next hbd =>
      obtain ⟨j, x, hx, hbx⟩ := h.used b hu
      have hj : j ≠ i := fun hji => hbd (by
        rw [hji, hd] at hx
        cases hx
        exact hbx)
      refine ⟨j, x, ?_, hbx⟩
      show Table.get (State.descriptors _) j = _
      rw [State.completeMessage_descriptors, Table.get_set_ne _ _ hj]
      exact hx
  case arming => exact fun _ => arming_evalPool _

/-- An accepted SEND takes free buffers, as many as its payload needs (R7, R10, R11). -/
theorem BufferLaw.allocate (h : BufferLaw s) {i : DescId}
    (hi : s.descriptors.first (·.isNone) = some i) (p : PortId) (f : SendFields)
    (ts : List MailboxId) (k : Nat) (hn : buffersFor f.payload.length ≤ s.freeBuffers) :
    BufferLaw (s.allocate p f ts k) := by
  have hd := desc_allocate hi p f ts k
  have hb := buffers_allocate hi p f ts k
  obtain ⟨hnd, hlen, hfree⟩ := takeable_spec hn
  have hnone := first_free_desc hi
  have old : ∀ j x b, s.desc j = some x → b ∈ x.buffers →
      b ∉ s.takeable (buffersFor f.payload.length) := fun j x b hx hbx hbt => by
    have := (h.held j x hx).2.2 b hbx
    rw [hfree b hbt] at this
    cases this
  constructor
  case held =>
    intro j y hy
    rw [hd] at hy
    split at hy
    · cases hy
      exact ⟨hnd, hlen, fun b hbt => (hb b).trans (if_pos hbt)⟩
    · obtain ⟨hn, hl, hu⟩ := h.held j y hy
      exact ⟨hn, hl, fun b hby => (hb b).trans ((if_neg (old j y b hy hby)).trans (hu b hby))⟩
  case apart =>
    intro a c x y b hx hy hbx hby
    rw [hd] at hx hy
    split at hx <;> split at hy
    · next ha hc => rw [ha, hc]
    · cases hx
      exact absurd hbx (old c y b hy hby)
    · cases hy
      exact absurd hby (old a x b hx hbx)
    · exact h.apart a c x y b hx hy hbx hby
  case used =>
    intro b hu
    rw [hb] at hu
    split at hu
    · next hbt => exact ⟨i, _, (hd i).trans (if_pos rfl), hbt⟩
    · obtain ⟨j, x, hx, hbx⟩ := h.used b hu
      have hj : j ≠ i := fun hji => by rw [hji, hnone] at hx; cases hx
      exact ⟨j, x, (hd j).trans ((if_neg hj).trans hx), hbx⟩
  case arming =>
    intro _
    rw [State.allocate_some hi]
    exact arming_evalPool _

theorem PoolChange.bufferLaw (h : PoolChange True s t) (hl : BufferLaw s) : BufferLaw t := by
  have keep : ∀ {s t : State}, (∀ j, t.desc j = s.desc j) → t.buffers = s.buffers →
      (t.startUp = false → t.poolArmed = decide (t.lowMark ≤ t.freeBuffers)) →
      BufferLaw s → BufferLaw t := fun hd hb ha hs =>
    hs.of_identity (fun i y hy => ⟨y, (hd i).symm.trans hy, rfl⟩)
      (fun i x hx => ⟨x, (hd i).trans hx, rfl⟩) hb ha
  induction h with
  | same s t h =>
    obtain ⟨hd, hb, -, hp, hm, hs⟩ := h
    have hf : t.freeBuffers = s.freeBuffers := congrArg (·.count (· = .free)) hb
    refine keep (fun j => congrArg (·.get j) hd) hb ?_ hl
    rw [hs, hp, hm, hf]
    exact hl.arming
  | message s i x y hx h =>
    refine hl.of_identity (fun j z => identity_setDesc hx h j) (fun j w hw => ?_) rfl hl.arming
    by_cases hj : j = i
    · subst hj
      rw [hx] at hw
      cases hw
      exact ⟨y, State.desc_setDesc_self _ _ _, h⟩
    · exact ⟨w, (State.desc_setDesc_ne _ _ hj).trans hw, rfl⟩
  | complete s i d hd => exact hl.completeMessage hd
  | allocate s p f ts k _ hok =>
    obtain ⟨-, -, hfree, -, hbuf⟩ := admission_found hok
    obtain ⟨i, hi⟩ := exists_free_desc hfree
    exact hl.allocate hi p f ts k hbuf
  | configure s mark limit =>
    exact keep (s := s) (fun j => State.desc_evalPool _ j) (State.evalPool_buffers _)
      (fun _ => arming_evalPool _) hl
  | clear s =>
    refine .of_empty (fun d => (State.desc_evalPool _ d).trans (Table.get_replicate _ d))
      (fun b => ?_) fun _ => arming_evalPool _
    rw [State.evalPool_buffers]
    have : s.emptied.buffers.get b = (s.buffers.get b).release := Table.get_map _ _ b
    rw [this]
    cases s.buffers.get b <;> simp [BufferSet.release]
  | test s failed hi =>
    have ht := tested_endTest s failed
    refine .of_empty (fun d => (congrArg (·.get d) ht.descriptors).trans (hi trivial d))
      (fun b => ?_) fun _ => ?_
    · rw [ht.buffers, get_testedBuffers]
      split <;> decide
    · have hf : (s.endTest failed).freeBuffers = goodOf failed := by
        rw [← count_testedBuffers, ← ht.buffers]
        rfl
      rw [ht.poolArmed, ht.lowMark, hf]
  | reset s t hd hb _ hs =>
    exact .of_empty hd (fun b => by rw [hb]; decide) fun h => by rw [hs] at h; cases h
  | trans s t u _ _ ih ik => exact ik (ih hl)

/-- Settles O57: an accepted SEND takes free buffers, a completion gives them back, a test or a CLEAR leaves no
message; pool-low arming is evaluated whenever the free count or the mark changes. -/
theorem stepKeepsTheBufferLaw : Obligations.StepKeepsTheBufferLaw := fun _ _ hm hl hx =>
  (poolChange_of_step (idle := True) hx fun _ ht => hm.store (by rw [ht]; decide)).bufferLaw hl

end Sys2Proof.Machine
end

section
namespace Sys2Proof.Machine

/-! ### The law of a port record, function by function -/

/-- `PortLaw` but for the line in break, whose clause fails between a break start and the end of the session
that it breaks. -/
structure PortCore (x : Port) : Prop where
  slots : x.replies.length ≤ Config.replySlots
  queue : x.reports.length ≤ Config.reportPlaces
  quiet : x.session ≠ .up →
    x.flags = 0#7 ∧ x.enables = 0#7 ∧ x.noticeOutstanding = false ∧ x.noticeQueued = false ∧
      x.window = none ∧ x.inFlight = [] ∧ x.prepared = none ∧ x.reports = []
  window : x.session = .up →
    x.epoch ≠ 0#16 ∧ ∃ w, x.window = some w ∧ 1 ≤ w ∧ w ≤ 4 ∧ x.inFlight.length ≤ w
  gate : x.noticeQueued = true → x.noticeOutstanding = true
  told : x.noticeOutstanding = false → x.flags &&& x.enables = 0#7
  carried : x.noticeQueued = true → x.flags ≠ 0#7
  silent : x.session = .down →
    x.helloPending = false ∧ x.replies = [] ∧ x.receiver = .hunt ∧ ∀ f, x.tx ≠ .sending f
  free : x.tx = .idle → x.txd = .idle

variable {x y z : Port}

theorem portLaw_iff : PortLaw x ↔ PortCore x ∧ (x.lineInBreak = true → x.session = .down) :=
  ⟨fun h => ⟨⟨h.slots, h.queue, h.quiet, h.window, h.gate, h.told, h.carried, h.silent, h.free⟩,
      h.broken⟩,
    fun ⟨h, hb⟩ => ⟨h.slots, h.queue, h.quiet, h.window, h.gate, h.told, h.carried, h.silent,
      h.free, hb⟩⟩

/-- A port record changed, but not its session or its line's break; the law is kept and no reply is more. -/
structure PortSteady (x y : Port) : Prop where
  core : PortCore x → PortCore y
  session : y.session = x.session
  line : y.lineInBreak = x.lineInBreak
  replies : y.replies.length ≤ x.replies.length

theorem PortSteady.refl (x : Port) : PortSteady x x := ⟨id, rfl, rfl, le_rfl⟩

theorem PortSteady.trans (h : PortSteady x y) (k : PortSteady y z) : PortSteady x z :=
  ⟨fun c => k.core (h.core c), k.session.trans h.session, k.line.trans h.line,
    k.replies.trans h.replies⟩

/-! ### The event unit -/

/-- The notice condition evaluated at an UP port whose flags or enables have changed (R163, R164, R166). -/
theorem portSteady_evalNotice (hup : x.session = .up) {flags enables : EventSet}
    (hf : x.flags ≠ 0#7 → flags ≠ 0#7) :
    PortSteady x (Port.evalNotice { x with flags := flags, enables := enables }) := by
  rw [Port.evalNotice_eq]
  refine ⟨fun h => ?_, rfl, rfl, le_rfl⟩
  have hn : ¬ x.session ≠ .up := not_not.2 hup
  unfold Port.evalNotice
  split
  · next hc =>
    refine { h with quiet := fun hu => absurd hu hn, gate := fun _ => rfl, told := fun ho => ?_,
                    carried := fun _ h0 => ?_ }
    · cases ho
    · have h0' : flags = 0#7 := h0
      refine hc.2 ?_
      show flags &&& enables = 0#7
      rw [h0']
      exact BitVec.zero_and
  · next hc =>
    refine { h with quiet := fun hu => absurd hu hn, told := fun ho => ?_,
                    carried := fun hq => hf (h.carried hq) }
    exact not_not.1 fun hne => hc ⟨ho, hne⟩

/-- A raise keeps the law of the record (R163). -/
theorem portSteady_raise (x : Port) (e : Event) : PortSteady x (x.raise e) := by
  by_cases hup : x.session = .up
  · rw [Port.raise_up e hup]
    refine portSteady_evalNotice hup (enables := x.enables) fun hf h0 => hf ?_
    have := BitVec.or_eq_zero_iff.1 h0
    exact this.1
  · rw [Port.raise_quiet e hup]
    exact .refl x

/-- READ_EVENTS (R167). -/
theorem portSteady_readEvents (x : Port) : PortSteady x x.readEvents := by
  refine ⟨fun h => ?_, rfl, rfl, le_rfl⟩
  refine { h with quiet := fun hu => ?_, gate := fun hq => ?_, told := fun _ => BitVec.zero_and,
                  carried := fun hq => ?_ }
  · obtain ⟨-, hen, -, -, hw⟩ := h.quiet hu
    exact ⟨rfl, hen, rfl, rfl, hw⟩
  · cases hq
  · cases hq

/-! ### Replies -/

/-- Other replies, as many at most, and none at a DOWN port. -/
theorem PortCore.withReplies (h : PortCore x) {rs : List Reply} (hl : rs.length ≤ Config.replySlots)
    (hd : x.session = .down → rs = []) : PortCore { x with replies := rs } :=
  { h with
    slots := hl
    silent := fun hs => ⟨(h.silent hs).1, hd hs, (h.silent hs).2.2⟩ }

/-- A reply posted at a port that hears (R156). -/
theorem PortCore.post (h : PortCore x) (r : Reply) (hs : x.replies.length < Config.replySlots)
    (hd : x.session ≠ .down) : PortCore (x.post r) :=
  h.withReplies (by rw [List.length_append]; exact hs) fun hs => absurd hs hd

/-- A completion moves one reply to the end of the slots (R158). -/
theorem Port.complete_length (x : Port) (a : Awaited) (res : Results) :
    (x.complete a res).replies.length ≤ x.replies.length := by
  unfold Port.complete
  split
  · exact le_rfl
  · next r hr =>
    have hm := List.mem_of_find?_eq_some hr
    have ha : r.awaits a = true := List.find?_some (p := fun y : Reply => y.awaits a) hr
    have hlt : (x.replies.filter fun y => !y.awaits a).length < x.replies.length :=
      List.length_filter_lt_length_iff_exists.2 ⟨r, hm, by simp [ha]⟩
    simpa using hlt

/-- Fewer replies, or as many: the record of a port whose replies a change reads and writes alone. -/
theorem PortSteady.of_replies {rs : List Reply} (hl : rs.length ≤ x.replies.length) :
    PortSteady x { x with replies := rs } :=
  ⟨fun h => h.withReplies (hl.trans h.slots) fun hd =>
    List.length_eq_zero_iff.1 (by rw [(h.silent hd).2.1] at hl; exact Nat.le_zero.1 hl),
    rfl, rfl, hl⟩

/-- A completed reply keeps the law of the record (R158). -/
theorem portSteady_complete (x : Port) (a : Awaited) (res : Results) :
    PortSteady x (x.complete a res) := by
  rw [Port.complete_eq]
  exact .of_replies (x.complete_length a res)

/-! ### Offers and reports -/

/-- An offer that ends keeps the law of the record (R13, R133). -/
theorem portSteady_withoutOffer (x : Port) (e : EntryId) : PortSteady x (x.withoutOffer e) := by
  refine ⟨fun h => ?_, rfl, rfl, le_rfl⟩
  have htx : (x.withoutOffer e).tx = x.tx ∨ (x.withoutOffer e).tx = .stopped := by
    unfold Port.withoutOffer
    dsimp only
    split
    · next htx =>
      split
      · exact .inr rfl
      · exact .inl htx.symm
    · exact .inl rfl
  refine { h with quiet := fun hu => ?_, window := fun hu => ?_, silent := fun hd => ?_,
                  free := fun hi => ?_ }
  · obtain ⟨a, b, c, d, w, hf, hp, r⟩ := h.quiet hu
    refine ⟨a, b, c, d, w, ?_, ?_, r⟩
    · show without x.inFlight e = []
      rw [hf]
      rfl
    · show x.prepared.filter _ = none
      rw [hp]
      rfl
  · obtain ⟨he, w, hw, h1, h4, hl⟩ := h.window hu
    exact ⟨he, w, hw, h1, h4, (without_sublist _ _).length_le.trans hl⟩
  · obtain ⟨a, b, c, hs⟩ := h.silent hd
    refine ⟨a, b, c, fun f hf => ?_⟩
    rcases htx with ht | ht
    · exact hs f (ht ▸ hf)
    · rw [ht] at hf
      cases hf
  · rcases htx with ht | ht
    · exact h.free (ht ▸ hi)
    · rw [ht] at hi
      cases hi

/-- A report taken by an UP port (R101, R102). -/
theorem portSteady_takeReport (hup : x.session = .up) (r : Report) :
    PortSteady x (x.takeReport r) := by
  unfold Port.takeReport
  split
  · next hl =>
    refine ⟨fun h => { h with queue := ?_, quiet := fun hu => absurd hup hu }, rfl, rfl, le_rfl⟩
    show (x.reports ++ [r]).length ≤ _
    rw [List.length_append]
    exact hl
  · exact PortSteady.trans (y := { x with lostReports := bump x.lostReports })
      ⟨fun h => { h with }, rfl, rfl, le_rfl⟩ (portSteady_raise _ _)

/-- The contents of a port cleared (R182). -/
theorem portSteady_clearTraffic (x : Port) : PortSteady x x.clearTraffic := by
  refine ⟨fun h => ?_, rfl, rfl, le_rfl⟩
  refine { h with queue := Nat.zero_le _, quiet := fun hu => ?_, window := fun hu => ?_ }
  · obtain ⟨a, b, c, d, w, -⟩ := h.quiet hu
    exact ⟨a, b, c, d, w, rfl, rfl, rfl⟩
  · obtain ⟨he, w, hw, h1, h4, -⟩ := h.window hu
    exact ⟨he, w, hw, h1, h4, Nat.zero_le _⟩

/-- A selection at an UP port with room in its window (R66, R69). -/
theorem portSteady_offered (hup : x.session = .up) (hl : x.inFlight.length < x.window.getD 0)
    (e : EntryId) (n : Byte) (pr : Prepared) : PortSteady x
      { x with inFlight := x.inFlight ++ [e], nextOfferId := n, prepared := some pr } := by
  refine ⟨fun h => { h with quiet := fun hu => absurd hup hu, window := fun hu => ?_ }, rfl, rfl,
    le_rfl⟩
  obtain ⟨he, w, hw, h1, h4, -⟩ := h.window hu
  rw [hw] at hl
  exact ⟨he, w, hw, h1, h4, by rw [List.length_append]; exact hl⟩

/-! ### The transmitter -/

theorem beginReply_length {rs rs' : List Reply} {f : Frame} (h : beginReply rs = some (f, rs')) :
    rs'.length = rs.length := by
  induction rs generalizing rs' with
  | nil => cases h
  | cons r rest ih =>
    unfold beginReply at h
    split at h
    · cases h; rfl
    · obtain ⟨⟨g, qs⟩, hq, hr⟩ := Option.map_eq_some_iff.1 h
      cases hr
      exact congrArg Nat.succ (ih hq)
    · obtain ⟨⟨g, qs⟩, hq, hr⟩ := Option.map_eq_some_iff.1 h
      cases hr
      exact congrArg Nat.succ (ih hq)

/-- What the arbiter does to a port record: a frame is on the line, and a wait for it is over (R159). -/
theorem Port.beginFrame_cases (x : Port) (hello : HelloFrame) : x.beginFrame hello = x ∨
    ∃ f hp rs nq reports, x.beginFrame hello =
      { x with
        helloPending := hp, replies := rs, noticeQueued := nq, reports := reports
        tx := .sending f } ∧
      rs.length = x.replies.length ∧ (nq = true → x.noticeQueued = true) ∧
      reports.length ≤ x.reports.length := by
  unfold Port.beginFrame
  split
  · exact .inr ⟨_, _, _, _, _, rfl, rfl, id, le_rfl⟩
  · split
    · next hr => exact .inr ⟨_, _, _, _, _, rfl, beginReply_length hr, id, le_rfl⟩
    · split
      · exact .inr ⟨_, _, _, _, _, rfl, rfl, fun h => (by cases h), le_rfl⟩
      · split
        · next hr => exact .inr ⟨_, _, _, _, _, rfl, rfl, id, by rw [hr]; exact Nat.le_succ _⟩
        · split
          · exact .inr ⟨_, _, _, _, _, rfl, rfl, id, le_rfl⟩
          · exact .inl rfl

/-- A DOWN port begins no frame (R124). -/
theorem PortCore.beginFrame_down (h : PortCore x) (hd : x.session = .down) (hello : HelloFrame) :
    x.beginFrame hello = x := by
  obtain ⟨hh, hr, -, -⟩ := h.silent hd
  obtain ⟨-, -, -, hq, -, -, hp, hrep⟩ := h.quiet (by rw [hd]; decide)
  simp [Port.beginFrame, hh, hr, hq, hp, hrep, beginReply]

/-- The arbiter's choice keeps the law of the record (R159). -/
theorem portSteady_beginFrame (x : Port) (hello : HelloFrame) :
    PortSteady x (x.beginFrame hello) := by
  rcases x.beginFrame_cases hello with h | ⟨f, hp, rs, nq, reports, h, hrs, hnq, hrep⟩
  · rw [h]
    exact .refl x
  · refine ⟨fun hc => ?_, by rw [h], by rw [h], by rw [h]; exact hrs.le⟩
    by_cases hd : x.session = .down
    · rw [hc.beginFrame_down hd]
      exact hc
    · rw [h]
      refine { hc with
        slots := hrs.le.trans hc.slots, queue := hrep.trans hc.queue
        quiet := fun hu => ?_, gate := fun hq => hc.gate (hnq hq)
        carried := fun hq => hc.carried (hnq hq), silent := fun hs => absurd hs hd
        free := fun hi => by cases hi }
      obtain ⟨a, b, c, d, w, i, p, r⟩ := hc.quiet hu
      rw [r] at hrep
      refine ⟨a, b, c, ?_, w, i, p, List.length_eq_zero_iff.1 (Nat.le_zero.1 hrep)⟩
      exact Bool.eq_false_iff.2 fun hq => by rw [hnq hq] at d; cases d

/-- A transmitter that is free (R160). -/
theorem portSteady_freeTransmitter (x : Port) : PortSteady x x.freeTransmitter := by
  refine ⟨fun h => { h with silent := fun hd => ?_, free := fun _ => rfl }, rfl, rfl, le_rfl⟩
  obtain ⟨a, b, c, -⟩ := h.silent hd
  exact ⟨a, b, c, fun f hf => by cases hf⟩

/-- A reply that has been sent leaves its slot (R160). -/
theorem portSteady_replySent (x : Port) :
    PortSteady x { x.freeTransmitter with replies := x.replies.filter fun r => !r.isSending } :=
  (portSteady_freeTransmitter x).trans
    (PortSteady.of_replies (x := x.freeTransmitter) (List.length_filter_le _ _))

/-- An offer that has been sent is no prepared offer any more (R72, R160). -/
theorem portSteady_offerSent (x : Port) :
    PortSteady x { x.freeTransmitter with prepared := none } := by
  refine (portSteady_freeTransmitter x).trans ⟨fun h => { h with quiet := fun hu => ?_ }, rfl, rfl,
    le_rfl⟩
  obtain ⟨a, b, c, d, w, i, -, r⟩ := h.quiet hu
  exact ⟨a, b, c, d, w, i, rfl, r⟩

/-! ### The receiver and the counters -/

/-- The receiver of a port that is not DOWN goes on (R144). -/
theorem portSteady_receiver (hd : x.session ≠ .down) (r : Receiver) :
    PortSteady x { x with receiver := r } :=
  ⟨fun h => { h with silent := fun hs => absurd hs hd }, rfl, rfl, le_rfl⟩

/-- A frame discarded (R145). -/
theorem portSteady_discardFrame (hd : x.session ≠ .down) : PortSteady x
    (Port.raise { x with receiver := .hunt, badFrames := bump x.badFrames } .linkError) :=
  PortSteady.trans (y := { x with receiver := .hunt, badFrames := bump x.badFrames })
    ⟨fun h => { h with silent := fun hs => absurd hs hd }, rfl, rfl, le_rfl⟩
    (portSteady_raise _ _)

/-- A command dropped (R157). -/
theorem portSteady_dropCommand (x : Port) : PortSteady x
    (Port.raise { x with droppedCommands := bump x.droppedCommands } .overrun) :=
  PortSteady.trans (y := { x with droppedCommands := bump x.droppedCommands })
    ⟨fun h => { h with }, rfl, rfl, le_rfl⟩ (portSteady_raise _ _)

/-- A stray answer (R79). -/
theorem portSteady_stray (x : Port) :
    PortSteady x { x with strayAnswers := bump x.strayAnswers } :=
  ⟨fun h => { h with }, rfl, rfl, le_rfl⟩

/-! ### Sessions that begin and end -/

theorem Transmitter.stop_ne_sending (t : Transmitter) (f : Frame) : t.stop ≠ .sending f := by
  cases t <;> exact nofun

theorem Transmitter.stop_eq_idle (t : Transmitter) : t.stop = .idle ↔ t = .idle := by
  cases t <;> simp [Transmitter.stop]

/-- A session begins on a port that is ANNOUNCED (R129). -/
theorem PortCore.attach (h : PortCore x) (hup : x.session ≠ .up) {epoch : BitVec 16} {w : Nat}
    (e : EventSet) (he : epoch ≠ 0#16) (hw : 1 ≤ w ∧ w ≤ 4) : PortCore (x.attach epoch w e) := by
  obtain ⟨-, -, -, -, -, hf, -, -⟩ := h.quiet hup
  exact { h with
    quiet := fun hu => absurd rfl hu
    window := fun _ => ⟨he, w, rfl, hw.1, hw.2, by
      show x.inFlight.length ≤ w
      rw [hf]
      exact Nat.zero_le _⟩
    gate := nofun
    told := fun _ => BitVec.zero_and
    carried := nofun
    silent := nofun }

/-- The record of a port whose session ends, but for a break (R132, R133). -/
theorem PortCore.leaveUp (h : PortCore x) {c : EndCause} (hc : c ≠ .lineBreak) :
    PortCore ((x.discardLink c).leaveUp c) := by
  rw [Port.discardLink_leaveUp]
  simp only [if_neg hc]
  refine { h with
    slots := (List.length_filter_le _ _).trans h.slots, queue := Nat.zero_le _
    quiet := fun _ => ⟨rfl, rfl, rfl, rfl, rfl, rfl, rfl, rfl⟩, window := nofun
    gate := nofun, told := fun _ => BitVec.zero_and
    carried := nofun, silent := nofun, free := fun hi => ?_ }
  refine h.free ?_
  revert hi
  cases x.tx with
  | idle => exact fun _ => rfl
  | stopped => exact fun hi => by cases hi
  | sending f => cases f <;> exact fun hi => by cases hi

/-- The link of a port that is not UP broken (R123, R124). -/
theorem PortCore.breakLink (h : PortCore x) (hup : x.session ≠ .up) : PortCore x.breakLink := by
  obtain ⟨a, b, c, -, w, i, -, r⟩ := h.quiet hup
  exact {
    slots := Nat.zero_le _, queue := h.queue
    quiet := fun _ => ⟨a, b, c, rfl, w, i, rfl, r⟩, window := nofun
    gate := nofun, told := h.told, carried := nofun
    silent := fun _ => ⟨rfl, rfl, rfl, fun f => x.tx.stop_ne_sending f⟩
    free := fun hi => h.free (x.tx.stop_eq_idle.1 hi) }

/-- The record of a port whose session a break ends (R123, R124, R132). -/
theorem PortCore.broken (h : PortCore x) :
    PortCore ((x.discardLink .lineBreak).leaveUp .lineBreak).breakLink where
  slots := Nat.zero_le _
  queue := Nat.zero_le _
  quiet := fun _ => ⟨rfl, rfl, rfl, rfl, rfl, rfl, rfl, rfl⟩
  window := nofun
  gate := nofun
  told := fun _ => BitVec.zero_and
  carried := nofun
  silent := fun _ => ⟨rfl, rfl, rfl, fun f => x.tx.stop.stop_ne_sending f⟩
  free := fun hi => h.free (x.tx.stop_eq_idle.1 (x.tx.stop.stop_eq_idle.1 hi))

/-- A port that is not UP announced (R125, R126). -/
theorem PortCore.announce (h : PortCore x) (hup : x.session ≠ .up) : PortCore x.announce :=
  { h with quiet := fun _ => h.quiet hup, window := nofun, silent := nofun }

/-- A port that is neither UP nor DOWN after a test fault (R139, R180). -/
theorem PortCore.afterFault (h : PortCore x) (hup : x.session ≠ .up) : PortCore x.afterFault := by
  unfold Port.afterFault
  split
  · exact h
  · exact { h with quiet := fun _ => h.quiet hup, window := nofun, silent := nofun }

/-- The record of a port at power-on. -/
theorem portLaw_powerOn (b : Bool) : PortLaw (Port.powerOn b) where
  slots := Nat.zero_le _
  queue := Nat.zero_le _
  quiet := fun _ => ⟨rfl, rfl, rfl, rfl, rfl, rfl, rfl, rfl⟩
  window := nofun
  gate := nofun
  told := fun _ => BitVec.zero_and
  carried := nofun
  silent := fun _ => ⟨rfl, rfl, rfl, nofun⟩
  free := fun _ => rfl
  broken := nofun

end Sys2Proof.Machine
end

section
namespace Sys2Proof.Machine

/-! ### What most acts leave of mode, mailboxes, groups and sessions -/

/-- The mailbox may stand in a member list (R108). -/
def MailboxState.live (x : MailboxState) : Prop := x = .opened ∨ x = .dormant

/-- Mode, messages, mailboxes and groups after an act that begins no test, opens no mailbox and adds no member:
no FREE mailbox is taken, and one that is neither OPEN nor DORMANT any more has left every group. -/
structure SteadyTables (s t : State) : Prop where
  mode : t.mode = s.mode
  startUp : t.startUp = s.startUp
  store : s.mode = .running ∨ ∀ d, s.desc d = none → t.desc d = none
  free : ∀ m, (s.mbx m).state = .free → (t.mbx m).state = .free
  groups : ∀ g, (t.grp g).policy = (s.grp g).policy ∧
    (t.grp g).members.Sublist (s.grp g).members
  boxes : ∀ m, (s.mbx m).state.live → (t.mbx m).state.live ∨ ∀ g, m ∉ (t.grp g).members

/-- The same, with every session as it was and every port record's law kept. -/
structure Steady (s t : State) : Prop where
  tables : SteadyTables s t
  ports : ∀ p, PortSteady (s.port p) (t.port p)

variable {s t u : State} {p : PortId}

theorem SteadyTables.trans (h : SteadyTables s t) (k : SteadyTables t u) : SteadyTables s u where
  mode := k.mode.trans h.mode
  startUp := k.startUp.trans h.startUp
  store := by
    rcases h.store with hr | hs
    · exact .inl hr
    · rcases k.store with kr | ks
      · exact .inl (h.mode ▸ kr)
      · exact .inr fun d hd => ks d (hs d hd)
  free m hm := k.free m (h.free m hm)
  groups g := ⟨(k.groups g).1.trans (h.groups g).1, (k.groups g).2.trans (h.groups g).2⟩
  boxes m hm := by
    rcases h.boxes m hm with ht | ht
    · exact k.boxes m ht
    · exact .inr fun g hg => ht g ((k.groups g).2.subset hg)

theorem Steady.trans (h : Steady s t) (k : Steady t u) : Steady s u :=
  ⟨h.tables.trans k.tables, fun p => (h.ports p).trans (k.ports p)⟩

/-- Tables that the act does not touch, registers aside. -/
theorem SteadyTables.of_same (hm : t.mode = s.mode) (hs : t.startUp = s.startUp)
    (hd : t.descriptors = s.descriptors) (hb : ∀ m, (t.mbx m).state = (s.mbx m).state)
    (hg : t.groups = s.groups) : SteadyTables s t where
  mode := hm
  startUp := hs
  store := .inr fun d h => (congrArg (·.get d) hd).trans h
  free m h := (hb m).trans h
  groups g := by
    have : t.grp g = s.grp g := congrArg (·.get g) hg
    rw [this]
    exact ⟨rfl, List.Sublist.refl _⟩
  boxes m h := .inl (by rw [hb]; exact h)

theorem Steady.refl (s : State) : Steady s s :=
  ⟨.of_same rfl rfl rfl (fun _ => rfl) rfl, fun _ => .refl _⟩

theorem Steady.foldl {α : Type} {f : State → α → State} (as : List α) (h : ∀ s a, Steady s (f s a))
    (s : State) : Steady s (as.foldl f s) := by
  induction as generalizing s with
  | nil => exact .refl s
  | cons a rest ih => exact (h s a).trans (ih _)

/-- Port records changed, one or all. -/
theorem steady_updPort (s : State) {p : PortId} {f : Port → Port}
    (h : PortSteady (s.port p) (f (s.port p))) : Steady s (s.updPort p f) where
  tables := .of_same rfl rfl rfl (fun _ => rfl) rfl
  ports q := by
    rw [State.port_updPort]
    split
    · next hq => subst hq; exact h
    · exact .refl _

theorem steady_allPorts (s : State) {f : Port → Port} (h : ∀ p, PortSteady (s.port p) (f (s.port p))) :
    Steady s (s.allPorts f) where
  tables := .of_same rfl rfl rfl (fun _ => rfl) rfl
  ports q := by rw [State.port_allPorts]; exact h q

/-- A mailbox record changed, but not its state. -/
theorem steady_updMbx (s : State) (m : MailboxId) {f : Mailbox → Mailbox}
    (h : (f (s.mbx m)).state = (s.mbx m).state) : Steady s (s.updMbx m f) where
  tables := .of_same rfl rfl rfl (fun n => by
    rw [State.mbx_updMbx]
    split
    · next hn => subst hn; exact h
    · rfl) rfl
  ports q := .refl _

theorem steady_setEntry (s : State) (e : EntryId) (x : Option Entry) : Steady s (s.setEntry e x) :=
  ⟨.of_same rfl rfl rfl (fun _ => rfl) rfl, fun _ => .refl _⟩

theorem steady_updEntry (s : State) (e : EntryId) (f : Entry → Entry) : Steady s (s.updEntry e f) :=
  steady_setEntry s e _

/-- A LIVE message changed. -/
theorem steady_updDesc (s : State) (i : DescId) (f : Descriptor → Descriptor) :
    Steady s (s.updDesc i f) where
  tables :=
    { SteadyTables.of_same (s := s) (t := s) rfl rfl rfl (fun _ => rfl) rfl with
      store := .inr fun d hd => by
        by_cases hi : d = i
        · subst hi
          rw [State.desc_updDesc_self, hd]
          rfl
        · rw [State.desc_updDesc_ne _ _ hi]
          exact hd }
  ports q := .refl _

theorem steady_setDesc_none (s : State) (i : DescId) : Steady s (s.setDesc i none) where
  tables :=
    { SteadyTables.of_same (s := s) (t := s) rfl rfl rfl (fun _ => rfl) rfl with
      store := .inr fun d hd => by
        by_cases hi : d = i
        · subst hi
          exact State.desc_setDesc_self _ _ _
        · rw [State.desc_setDesc_ne _ _ hi]
          exact hd }
  ports q := .refl _

theorem steady_raise (s : State) (e : Event) (p : PortId) : Steady s (s.raise e p) :=
  steady_updPort s (portSteady_raise _ e)

theorem steady_evalLevel (s : State) (m : MailboxId) : Steady s (s.evalLevel m) := by
  rcases s.evalLevel_cases m with h | h | h <;> rw [h]
  · exact .refl s
  · exact (steady_updMbx s m rfl).trans (steady_raise _ _ _)
  · exact steady_updMbx s m rfl

theorem steady_evalPool (s : State) : Steady s s.evalPool := by
  rcases s.evalPool_cases with h | h <;> rw [h]
  · exact ⟨.of_same rfl rfl rfl (fun _ => rfl) rfl, (steady_allPorts _ fun p =>
      portSteady_raise _ .poolLow).ports⟩
  · exact ⟨.of_same rfl rfl rfl (fun _ => rfl) rfl, fun _ => .refl _⟩

/-! ### Resolutions and requeues -/

theorem steady_handReport (s : State) (d : Descriptor) : Steady s (s.handReport d) := by
  unfold State.handReport
  split
  · refine steady_updPort s ?_
    split
    · next h => exact portSteady_takeReport h.1 _
    · exact .refl _
  · exact .refl s

theorem steady_completeMessage (s : State) (i : DescId) (d : Descriptor) :
    Steady s (s.completeMessage i d) := by
  refine (steady_handReport s d).trans (Steady.trans (t := (s.handReport d).moveBuffers d.buffers
    .free) ⟨.of_same rfl rfl rfl (fun _ => rfl) rfl, fun _ => .refl _⟩ ?_)
  exact (steady_setDesc_none _ i).trans (steady_evalPool _)

theorem steady_completeIfDone (s : State) (i : DescId) : Steady s (s.completeIfDone i) := by
  unfold State.completeIfDone
  split
  · split
    · exact steady_completeMessage s i _
    · exact .refl s
  · exact .refl s

theorem portSteady_leaveFlight (x : Port) (e : EntryId) : PortSteady x (x.leaveFlight e) := by
  rw [Port.leaveFlight_eq]
  exact portSteady_withoutOffer x e

theorem steady_resolve (s : State) (e : EntryId) (o : EntryOutcome) : Steady s (s.resolve e o) := by
  unfold State.resolve
  split
  · exact .refl s
  · next en _ =>
    exact ((((steady_updMbx s en.mailbox rfl).trans
      (steady_updPort _ (portSteady_leaveFlight _ e))).trans (steady_setEntry _ e none)).trans
      (steady_updDesc _ en.descriptor _)).trans
      ((steady_evalLevel _ en.mailbox).trans (steady_completeIfDone _ en.descriptor))

theorem steady_resolveAll (s : State) (es : List EntryId) (o : EntryOutcome) :
    Steady s (s.resolveAll es o) :=
  .foldl es (fun s e => steady_resolve s e o) s

theorem steady_requeue (s : State) (e : EntryId) : Steady s (s.requeue e) := by
  unfold State.requeue
  split
  · exact .refl s
  · exact (steady_setEntry s e _).trans (steady_updPort _ (portSteady_leaveFlight _ e))

theorem steady_nonAccepting (s : State) (e : EntryId) (b : Bool) : Steady s (s.nonAccepting e b) := by
  unfold State.nonAccepting
  split
  · exact .refl s
  · split
    · exact .refl s
    · split
      · exact steady_resolve s e _
      · exact steady_requeue s e

theorem steady_withdraw (s : State) (p : PortId) : Steady s (s.withdraw p) :=
  .foldl _ (fun s e => (steady_updEntry s e _).trans (steady_nonAccepting _ e false)) s

/-! ### Closes -/

/-- Mailboxes and ports alone, no mailbox taken and none in a group lost. -/
theorem OnlyPortsBoxes.steadyTables (h : OnlyPortsBoxes s t)
    (hf : ∀ m, (s.mbx m).state = .free → (t.mbx m).state = .free)
    (hb : ∀ m, (s.mbx m).state.live → (t.mbx m).state.live) : SteadyTables s t := by
  obtain ⟨-, hd, -, -, hg, -, hr⟩ := h.tables
  obtain ⟨-, -, hm, -, hs, -⟩ := State.registers_fields hr
  exact { SteadyTables.of_same (s := s) (t := { s with ports := t.ports }) rfl rfl rfl
      (fun _ => rfl) rfl with
    mode := hm, startUp := hs, store := .inr fun d h => (congrArg (·.get d) hd).trans h
    free := hf
    groups := fun g => by
      have : t.grp g = s.grp g := congrArg (·.get g) hg
      rw [this]
      exact ⟨rfl, List.Sublist.refl _⟩
    boxes := fun m h => .inl (hb m h) }

/-- The end of a close takes a CLOSING mailbox, which no group holds (R32). -/
theorem steady_closeIfEmpty (s : State) (m : MailboxId) : Steady s (s.closeIfEmpty m) := by
  unfold State.closeIfEmpty
  split
  · next hc =>
    obtain ⟨ho, hm, hp⟩ := s.finishClose_spec m
    refine ⟨ho.steadyTables (fun n hn => ?_) (fun n hn => ?_), fun q => ?_⟩
    · rw [hm]
      split
      · rfl
      · exact hn
    · have hne : n ≠ m := fun h => by
        rw [h, hc.1] at hn
        rcases hn with hn | hn <;> cases hn
      rw [hm, if_neg hne]
      exact hn
    · rw [hp]
      split
      · exact portSteady_complete _ _ _
      · exact .refl _
  · exact .refl s

theorem steady_thenClose (s : State) (e : EntryId) {act : State → State} (h : Steady s (act s)) :
    Steady s (s.thenClose e act) := by
  unfold State.thenClose
  split
  · exact .refl s
  · exact h.trans (steady_closeIfEmpty _ _)

theorem steady_tellOwner (s : State) (p : PortId) (m : MailboxId) : Steady s (s.tellOwner p m) := by
  unfold State.tellOwner
  split
  · exact .refl s
  · exact steady_raise s _ _

/-- No group holds a mailbox that has left them (R34). -/
theorem not_mem_leaveGroups (s : State) (m : MailboxId) (g : GroupId) :
    m ∉ ((s.leaveGroups m).grp g).members := by
  rw [State.grp_leaveGroups]
  simp

theorem steady_leaveGroups (s : State) (m : MailboxId) : Steady s (s.leaveGroups m) where
  tables :=
    { SteadyTables.of_same (s := s) (t := s) rfl rfl rfl (fun _ => rfl) rfl with
      groups := fun g => by
        rw [State.grp_leaveGroups]
        exact ⟨rfl, List.filter_sublist⟩
      boxes := fun n hn => .inl hn }
  ports q := .refl _

/-- A mailbox that no group holds, and that is not FREE or stays so. -/
theorem steady_updMbx_out (s : State) (m : MailboxId) {f : Mailbox → Mailbox}
    (hout : ∀ g, m ∉ (s.grp g).members)
    (hf : (s.mbx m).state = .free → (f (s.mbx m)).state = .free) : Steady s (s.updMbx m f) where
  tables :=
    { mode := rfl, startUp := rfl, store := .inr fun d h => h
      free := fun n hn => by
        rw [State.mbx_updMbx]
        split
        · next h => subst h; exact hf hn
        · exact hn
      groups := fun g => ⟨rfl, List.Sublist.refl _⟩
      boxes := fun n hn => by
        by_cases h : n = m
        · subst h
          exact .inr hout
        · refine .inl ?_
          rw [State.mbx_updMbx_ne _ _ h]
          exact hn }
  ports q := .refl _

/-- No group that held no mailbox `m` holds one after a steady act. -/
theorem Steady.out (h : Steady s t) {m : MailboxId} (hout : ∀ g, m ∉ (s.grp g).members) (g : GroupId) :
    m ∉ (t.grp g).members := fun hg => hout g ((h.tables.groups g).2.subset hg)

theorem steady_freeDormant (s : State) (m : MailboxId) : Steady s (s.freeDormant m) :=
  ((steady_resolveAll s _ .purged).trans (steady_leaveGroups _ m)).trans
    (steady_updMbx_out _ m (not_mem_leaveGroups _ m) fun _ => rfl)

theorem steady_beginClose (s : State) {m : MailboxId} (h : (s.mbx m).state ≠ .free) :
    Steady s (s.beginClose m) :=
  (steady_leaveGroups s m).trans (steady_updMbx_out (s.leaveGroups m) m
    (f := fun x => { x with state := .closing, closeCount := 0 }) (not_mem_leaveGroups s m)
    fun hf => absurd hf h)

theorem steady_closeOpen (s : State) (p : PortId) (seq : Byte) {m : MailboxId}
    (h : (s.mbx m).state ≠ .free) : Steady s (s.closeOpen p seq m).1 := by
  have hr := steady_resolveAll (s.beginClose m) ((s.beginClose m).queuedIn m) .purged
  refine ((steady_beginClose s h).trans hr).trans ?_
  unfold State.closeOpen
  dsimp only
  split
  · exact steady_updMbx_out _ m (hr.out (not_mem_leaveGroups _ m)) fun _ => rfl
  · exact steady_updMbx _ m rfl

theorem steady_cancelAt (s : State) (i : DescId) (n : BitVec 32) : Steady s (s.cancelAt i n).1 := by
  refine (steady_resolveAll s (s.queuedOf i) .cancelled).trans ?_
  unfold State.cancelAt
  dsimp only
  split
  · exact .refl _
  · next d hd =>
    have := steady_updDesc (s.resolveAll (s.queuedOf i) .cancelled) i fun x =>
      { x with cancelRequested := true }
    rwa [State.updDesc, hd] at this

/-! ### SEND, CLEAR and the link -/

theorem steady_addEntry (s : State) (i : DescId) (m : MailboxId) : Steady s (s.addEntry i m) := by
  unfold State.addEntry
  split
  · exact .refl s
  · exact ((steady_setEntry s _ _).trans (steady_updMbx _ m rfl)).trans (steady_evalLevel _ m)

theorem steady_allocate (hm : s.mode = .running) (p : PortId) (f : SendFields) (ts : List MailboxId)
    (k : Nat) : Steady s (s.allocate p f ts k) := by
  cases hi : s.descriptors.first (·.isNone) with
  | none =>
    have : s.allocate p f ts k = s := by simp only [State.allocate, hi]
    rw [this]
    exact .refl s
  | some i =>
    rw [State.allocate_some hi]
    refine Steady.trans (t := s.takeIn p f ts.length k i) ⟨?_, fun _ => .refl _⟩
      ((Steady.foldl ts (fun s m => steady_addEntry s i m) _).trans (steady_evalPool _))
    exact { SteadyTables.of_same (s := s) (t := s) rfl rfl rfl (fun _ => rfl) rfl with
      store := .inl hm }

theorem steady_clearAll (s : State) : Steady s s.clearAll := by
  have h1 : Steady s s.emptied :=
    { tables :=
        { mode := rfl, startUp := rfl
          store := .inr fun d _ => Table.get_replicate _ d
          free := fun m _ => congrArg Mailbox.state (Table.get_replicate Mailbox.blank m)
          groups := fun g => by
            have : s.emptied.grp g = { s.grp g with members := [] } := Table.get_map _ _ g
            rw [this]
            exact ⟨rfl, List.nil_sublist _⟩
          boxes := fun m _ => .inr fun g => by
            have : s.emptied.grp g = { s.grp g with members := [] } := Table.get_map _ _ g
            rw [this]
            simp }
      ports := fun p => by
        rw [State.port_emptied]
        exact portSteady_clearTraffic _ }
  refine (h1.trans (steady_evalPool _)).trans (Steady.foldl (List.finRange 32) (fun t m => ?_) _)
  obtain ⟨⟨ps, ht⟩, hp⟩ := t.completeClose_spec m (s.mbx m)
  refine ⟨?_, fun q => ?_⟩
  · rw [ht]
    exact .of_same rfl rfl rfl (fun _ => rfl) rfl
  · rw [hp]
    unfold Port.closeCleared
    split
    · exact portSteady_complete _ _ _
    · exact .refl _

theorem steady_arbitrate (s : State) (p : PortId) : Steady s (s.arbitrate p) := by
  unfold State.arbitrate
  split
  · exact steady_updPort s (portSteady_beginFrame _ _)
  · exact .refl s

theorem steady_endFrame (s : State) (p : PortId) (f : Frame) : Steady s (s.endFrame p f) := by
  cases f with
  | reply => exact steady_updPort s (portSteady_replySent _)
  | offer o =>
    unfold State.endFrame
    dsimp only
    split
    · exact (steady_updEntry s _ _).trans (steady_updPort _ (portSteady_offerSent _))
    · exact steady_updPort s (portSteady_freeTransmitter _)
  | hello | report | event => exact steady_updPort s (portSteady_freeTransmitter _)

theorem steady_lastByteSent (s : State) (p : PortId) : Steady s (s.lastByteSent p) := by
  unfold State.lastByteSent
  split
  · exact (steady_endFrame s p _).trans (steady_arbitrate _ p)
  · exact .refl s
  · exact .refl s

theorem steady_stoppedIdleEnded (s : State) (p : PortId) : Steady s (s.stoppedIdleEnded p) := by
  unfold State.stoppedIdleEnded
  split
  · exact (steady_updPort s (portSteady_freeTransmitter _)).trans (steady_arbitrate _ p)
  · exact .refl s

theorem steady_discardFrame (s : State) (p : PortId) : Steady s (s.discardFrame p) := by
  unfold State.discardFrame
  split
  · exact .refl s
  · next hd => exact steady_updPort s (portSteady_discardFrame hd)

/-- What a selection needs of the port (R66). -/
theorem mayOffer_iff (h : s.mayOffer p = true) : (s.port p).session = .up ∧
    (s.port p).inFlight.length < (s.port p).window.getD 0 ∧ (s.port p).prepared = none := by
  unfold State.mayOffer at h
  simp only [Bool.and_eq_true, decide_eq_true_eq] at h
  exact h.1

theorem steady_select (s : State) (p : PortId) : Steady s (s.select p) := by
  unfold State.select
  split
  · next hm =>
    obtain ⟨hup, hlen, -⟩ := mayOffer_iff hm
    split
    · unfold State.offerEntry
      split
      · exact .refl s
      · split
        · exact .refl s
        · exact (steady_setEntry s _ _).trans (steady_updPort _ (portSteady_offered hup hlen _ _ _))
    · exact .refl s
  · exact .refl s

/-! ### Session ends -/

/-- Ended closes keep the law of a port record (R41). -/
theorem portSteady_closesEnded (w : State) (p q : PortId) :
    PortSteady (w.port q) (w.closesEnded p q) := by
  have go : ∀ (ms : List MailboxId) (x : Port),
      PortSteady x (ms.foldl (fun y m => y.ownerGone q m (w.mbx m) p) x) := fun ms => by
    induction ms with
    | nil => exact .refl
    | cons m rest ih =>
      intro x
      refine PortSteady.trans ?_ (ih _)
      show PortSteady x (x.ownerGone q m (w.mbx m) p)
      unfold Port.ownerGone
      split
      · exact portSteady_complete _ _ _
      · exact .refl x
  exact go _ _

/-- The state of a mailbox whose owner leaves UP (R41). -/
theorem Mailbox.state_ownerGone (x : Mailbox) (p : PortId) (limit now : Nat) :
    (x.ownerGone p limit now).state =
      if x.owner = p ∧ x.state = .opened then .dormant
      else if x.owner = p ∧ x.state = .closing then .free
      else x.state := by
  unfold Mailbox.ownerGone
  split
  · rfl
  · split <;> rfl

/-- What a session end leaves: the ended port's own record apart, a steady act (R132). -/
theorem steady_endSession (s : State) (p : PortId) (c : EndCause) :
    SteadyTables s (s.endSession p c) ∧
    (∀ q, q ≠ p → PortSteady (s.port q) ((s.endSession p c).port q)) ∧
    ∃ x, PortSteady (s.port p) x ∧ (s.endSession p c).port p = (x.discardLink c).leaveUp c := by
  have hw := steady_withdraw s p
  rw [State.endSession_eq]
  refine ⟨hw.tables.trans ((State.leaveUp_only _ p c).steadyTables (fun m hm => ?_)
    fun m hm => ?_), fun q hq => (hw.ports q).trans ?_, _,
    (hw.ports p).trans (portSteady_closesEnded _ p p), State.port_leaveUp_self _ p c⟩
  · rw [State.mbx_leaveUp]
    refine ((Mailbox.state_ownerGone _ _ _ _).trans ?_)
    split_ifs with h1 h2
    · rw [h1.2] at hm; cases hm
    · rfl
    · exact hm
  · rw [State.mbx_leaveUp]
    have hst := Mailbox.state_ownerGone ((s.withdraw p).mbx m) p (s.withdraw p).dormancyLimit
      (s.withdraw p).now
    refine Eq.subst (motive := MailboxState.live) hst.symm ?_
    split_ifs with h1 h2
    · exact .inr rfl
    · rw [h2.2] at hm
      rcases hm with hm | hm <;> cases hm
    · exact hm
  · rw [State.port_leaveUp_ne _ c hq]
    split
    · exact (portSteady_closesEnded _ p q).trans (portSteady_raise _ _)
    · exact portSteady_closesEnded _ p q

end Sys2Proof.Machine
end

section
namespace Sys2Proof.Machine

variable {s t u : State} {p : PortId}

/-! ### The laws that a steady act keeps -/

/-- The group law needs only that members leave lists, and that those which stay stay OPEN or DORMANT. -/
theorem groupsLawful_of (h : s.groupsLawful)
    (hg : ∀ g, (t.grp g).policy = (s.grp g).policy ∧ (t.grp g).members.Sublist (s.grp g).members)
    (hb : ∀ m, (s.mbx m).state.live → (t.mbx m).state.live ∨ ∀ g, m ∉ (t.grp g).members) :
    t.groupsLawful := by
  intro g
  obtain ⟨hn, hl, hp, hm⟩ := h g
  obtain ⟨hpol, hsub⟩ := hg g
  refine ⟨hn.sublist hsub, hsub.length_le.trans hl, fun hnone => ?_, fun m hmem => ?_⟩
  · rw [hp (hpol ▸ hnone)] at hsub
    exact List.sublist_nil.1 hsub
  · rcases hb m (hm m (hsub.subset hmem)) with hlive | hout
    · exact hlive
    · exact absurd hmem (hout g)

theorem SteadyTables.groupsLawful (h : SteadyTables s t) (hl : s.groupsLawful) : t.groupsLawful :=
  groupsLawful_of hl h.groups h.boxes

/-- The mode law after an act that leaves the tables steady, given the sessions that it leaves. -/
theorem SteadyTables.modeLaw (h : SteadyTables s t) (hm : ModeLaw s)
    (hup : s.mode = .fault → ∀ p, (t.port p).session ≠ .up)
    (hdown : s.startUp = true → ∀ p, (t.port p).session = .down)
    (hheard : s.startUp = false → ∀ p, (t.port p).session = .down → (t.port p).lineInBreak = true) :
    ModeLaw t where
  store hr d := by
    rw [h.mode] at hr
    rcases h.store with hs | hs
    · exact absurd hs hr
    · exact hs d (hm.store hr d)
  fault hf := by
    rw [h.mode] at hf
    exact ⟨fun m => h.free m ((hm.fault hf).1 m), hup hf⟩
  startUp hs := by
    rw [h.startUp] at hs
    exact ⟨h.mode.trans (hm.startUp hs).1, fun m => h.free m ((hm.startUp hs).2.1 m), hdown hs⟩
  heard hs := hheard (h.startUp ▸ hs)

/-- The laws of the port records and of the mode together. -/
def State.portsAndMode (s : State) : Prop := s.portsLawful ∧ ModeLaw s

theorem PortSteady.law {x y : Port} (h : PortSteady x y) (hl : PortLaw x) : PortLaw y := by
  obtain ⟨hc, hb⟩ := portLaw_iff.1 hl
  exact portLaw_iff.2 ⟨h.core hc, by rw [h.line, h.session]; exact hb⟩

/-- The mode law after an act that leaves the tables steady and every session and break as it was. -/
theorem SteadyTables.modeLaw_of_ports (h : SteadyTables s t)
    (hp : ∀ p, (t.port p).session = (s.port p).session ∧
      (t.port p).lineInBreak = (s.port p).lineInBreak) (hm : ModeLaw s) : ModeLaw t :=
  h.modeLaw hm (fun hf p => by rw [(hp p).1]; exact (hm.fault hf).2 p)
    (fun hs p => by rw [(hp p).1]; exact (hm.startUp hs).2.2 p)
    (fun hs p => by rw [(hp p).1, (hp p).2]; exact hm.heard hs p)

theorem Steady.portsAndMode (h : Steady s t) (hl : s.portsAndMode) : t.portsAndMode :=
  ⟨fun p => (h.ports p).law (hl.1 p),
    h.tables.modeLaw_of_ports (fun p => ⟨(h.ports p).session, (h.ports p).line⟩) hl.2⟩

theorem steadyTables_updPort (s : State) (p : PortId) (f : Port → Port) :
    SteadyTables s (s.updPort p f) :=
  .of_same rfl rfl rfl (fun _ => rfl) rfl

/-- A port record changed so that its own law is kept, its session and its line's break as they were. -/
theorem portsAndMode_updPort (hl : s.portsAndMode) {f : Port → Port} (hf : PortCore (f (s.port p)))
    (hs : (f (s.port p)).session = (s.port p).session)
    (hb : (f (s.port p)).lineInBreak = (s.port p).lineInBreak) : (s.updPort p f).portsAndMode := by
  have fields : ∀ q, ((s.updPort p f).port q).session = (s.port q).session ∧
      ((s.updPort p f).port q).lineInBreak = (s.port q).lineInBreak := fun q => by
    rw [State.port_updPort]
    split
    · next h => subst h; exact ⟨hs, hb⟩
    · exact ⟨rfl, rfl⟩
  refine ⟨fun q => portLaw_iff.2 ⟨?_, ?_⟩,
    (steadyTables_updPort s p f).modeLaw_of_ports fields hl.2⟩
  · rw [State.port_updPort]
    split
    · next h => subst h; exact hf
    · exact (portLaw_iff.1 (hl.1 q)).1
  · rw [(fields q).1, (fields q).2]
    exact (hl.1 q).broken

/-! ### Effects of commands -/

/-- With a port UP the mode is neither start-up nor FAULT. -/
theorem ModeLaw.of_up (h : ModeLaw s) (hup : (s.port p).session = .up) :
    s.mode ≠ .fault ∧ s.startUp = false := by
  refine ⟨fun hf => (h.fault hf).2 p hup, Bool.eq_false_iff.2 fun hs => ?_⟩
  have := (h.startUp hs).2.2 p
  rw [hup] at this
  cases this

/-- Port `p` can still take a reply. -/
def State.canPost (s : State) (p : PortId) : Prop :=
  (s.port p).session ≠ .down ∧ (s.port p).replies.length < Config.replySlots

theorem Steady.canPost (h : Steady s t) (hp : s.canPost p) : t.canPost p :=
  ⟨by rw [(h.ports p).session]; exact hp.1, (h.ports p).replies.trans_lt hp.2⟩

theorem steady_reclaim (s : State) {m : MailboxId} (h : (s.mbx m).state = .dormant) (p : PortId) :
    Steady s (s.updMbx m fun x =>
      { x with state := .opened, dormancyDeadline := none, owner := p }) where
  tables :=
    { SteadyTables.of_same (s := s) (t := s) rfl rfl rfl (fun _ => rfl) rfl with
      free := fun n hn => by
        rw [State.mbx_updMbx]
        split
        · next hnm => subst hnm; rw [h] at hn; cases hn
        · exact hn
      boxes := fun n hn => .inl (by
        rw [State.mbx_updMbx]
        split
        · exact .inl rfl
        · exact hn) }
  ports q := .refl _

theorem steady_configure (s : State) (mark limit : Nat) :
    Steady s ({ s with lowMark := mark, dormancyLimit := limit } : State).evalPool :=
  Steady.trans (t := { s with lowMark := mark, dormancyLimit := limit })
    ⟨.of_same rfl rfl rfl (fun _ => rfl) rfl, fun _ => .refl _⟩ (steady_evalPool _)

/-- An effect is steady, or the end of the session, a mailbox opened, a group changed or a test begun. -/
theorem Effect.steady (h : Effect p s t) (hs : Serves s p) :
    Steady s t ∨ t = s.endSession p .detach ∨
    (∃ m x, (s.mbx m).state = .free ∧ x.state = .opened ∧ t = s.updMbx m fun _ => x) ∨
    (∃ g f, GroupStep s (s.grp g) (f (s.grp g)) ∧ t = s.updGrp g f) ∨
    ((∀ d, s.desc d = none) ∧ t = { s with mode := .testing }) := by
  cases h with
  | detach => exact .inr (.inl rfl)
  | opened m depth ack retry mark hfree =>
    exact .inr (.inr (.inl ⟨m, _, hfree, rfl, rfl⟩))
  | close seq m hopen =>
    refine .inl ((steady_tellOwner s p m).trans (steady_closeOpen _ p seq ?_))
    have : (s.tellOwner p m).mbx m = s.mbx m := by unfold State.tellOwner; split <;> rfl
    rw [this, hopen]
    decide
  | freed m => exact .inl ((steady_tellOwner s p m).trans (steady_freeDormant _ m))
  | held m => exact .inl (steady_updMbx s m rfl)
  | reclaim m hdor => exact .inl (steady_reclaim s hdor p)
  | send f ts k hm => exact .inl (steady_allocate hm p f ts k)
  | cancel i d => exact .inl (steady_cancelAt s i _)
  | setEvents e =>
    exact .inl (steady_updPort s (portSteady_evalNotice hs.up (enables := e) id))
  | readEvents => exact .inl (steady_updPort s (portSteady_readEvents _))
  | configure mark limit => exact .inl (steady_configure s mark limit)
  | group g f hg => exact .inr (.inr (.inr (.inl ⟨g, f, hg, rfl⟩)))
  | clear => exact .inl (steady_clearAll s)
  | retest _ hlive => exact .inr (.inr (.inr (.inr ⟨hlive, rfl⟩)))

/-- The end of a session other than by a break (R132). -/
theorem portsAndMode_endSession (hl : s.portsAndMode) (hup : (s.port p).session = .up) {c : EndCause}
    (hc : c ≠ .lineBreak) : (s.endSession p c).portsAndMode := by
  obtain ⟨ht, hq, x, hx, hp⟩ := steady_endSession s p c
  have hsess : ((s.endSession p c).port p).session = .announced := by
    rw [hp]
    cases c with
    | lineBreak => exact absurd rfl hc
    | detach | testFault => rfl
  obtain ⟨hnf, hns⟩ := hl.2.of_up hup
  refine ⟨fun q => ?_, ht.modeLaw hl.2 (fun hf => absurd hf hnf)
    (fun hs => by rw [hns] at hs; cases hs) fun hs q hd => ?_⟩
  · by_cases hqp : q = p
    · subst hqp
      refine portLaw_iff.2 ⟨?_, fun hb => ?_⟩
      · rw [hp]
        exact (hx.core (portLaw_iff.1 (hl.1 q)).1).leaveUp hc
      · have : ((s.endSession q c).port q).lineInBreak = x.lineInBreak := by
          rw [hp, Port.discardLink_leaveUp]
        rw [this, hx.line] at hb
        have := (hl.1 q).broken hb
        rw [hup] at this
        cases this
    · exact (hq q hqp).law (hl.1 q)
  · by_cases hqp : q = p
    · subst hqp
      rw [hsess] at hd
      cases hd
    · rw [(hq q hqp).session] at hd
      rw [(hq q hqp).line]
      exact hl.2.heard hs q hd

/-- An effect keeps the laws of ports and mode, and leaves the slot that the reply takes. -/
theorem Effect.portsAndMode (h : Effect p s t) (hs : Serves s p) (hl : s.portsAndMode) :
    t.portsAndMode ∧ t.canPost p := by
  have hcan : s.canPost p := ⟨hs.hears.notDown, hs.slot⟩
  obtain ⟨hnf, hns⟩ := hl.2.of_up hs.up
  have awake : ∀ {Q : Prop}, s.startUp = true → Q := fun h => by rw [hns] at h; cases h
  rcases h.steady hs with h | ht | ⟨m, x, -, -, ht⟩ | ⟨g, f, -, ht⟩ | ⟨hlive, ht⟩
  · exact ⟨h.portsAndMode hl, h.canPost hcan⟩
  · rw [ht]
    obtain ⟨-, -, x, hx, hp⟩ := steady_endSession s p .detach
    refine ⟨portsAndMode_endSession hl hs.up (by decide), ?_, ?_⟩
    · rw [hp]
      exact nofun
    · rw [hp]
      exact ((List.length_filter_le _ _).trans hx.replies).trans_lt hs.slot
  · rw [ht]
    exact ⟨⟨hl.1, hl.2.store, fun hf => absurd hf hnf, fun h => awake h, hl.2.heard⟩, hcan⟩
  · rw [ht]
    exact ⟨⟨hl.1, hl.2.store, hl.2.fault, hl.2.startUp, hl.2.heard⟩, hcan⟩
  · rw [ht]
    exact ⟨⟨hl.1, fun _ => hlive, nofun, fun h => awake h, hl.2.heard⟩, hcan⟩

/-- An answer keeps the laws of ports and mode, its reply posted. -/
theorem Comes.portsAndMode {kind seq : Byte} (h : Comes p kind seq s t) (hh : Hears s p)
    (hl : s.portsAndMode) : t.portsAndMode := by
  obtain ⟨r, hr, rfl⟩ := h
  have post : ∀ {v : State}, v.portsAndMode → v.canPost p →
      (v.updPort p (·.post ⟨kind, seq, r.2⟩)).portsAndMode := fun hv hc =>
    portsAndMode_updPort hv ((portLaw_iff.1 (hv.1 p)).1.post _ hc.2 hc.1) rfl rfl
  have hcan : s.canPost p := ⟨hh.notDown, hh.slot⟩
  cases hr with
  | refused => exact post hl hcan
  | read => exact post hl hcan
  | attached epoch w e res hm hup he hw =>
    refine post (v := s.updPort p (·.attach epoch w e)) ⟨fun q => ?_, ?_⟩ ⟨?_, ?_⟩
    · rw [State.port_updPort]
      split
      · next hq =>
        subst hq
        exact portLaw_iff.2 ⟨(portLaw_iff.1 (hl.1 q)).1.attach hup e he hw, fun hb =>
          absurd ((hl.1 q).broken hb) hh.notDown⟩
      · exact hl.1 q
    · refine (steadyTables_updPort s p _).modeLaw hl.2 (fun hf => absurd hf hm)
        (fun hs => absurd ((hl.2.startUp hs).2.2 p) hh.notDown) fun hs q hd => ?_
      rw [State.port_updPort] at hd ⊢
      split at hd
      · cases hd
      · next hq => rw [if_neg hq]; exact hl.2.heard hs q hd
    · rw [State.port_updPort_self]
      exact nofun
    · rw [State.port_updPort_self]
      exact hh.slot
  | effect _ hs he =>
    obtain ⟨hv, hc⟩ := he.portsAndMode hs hl
    exact post hv hc

/-! ### Breaks -/

/-- The laws of ports and mode after an act that leaves the tables steady, makes one port DOWN with its line in
break, and leaves the others steady. -/
theorem portsAndMode_down (hl : s.portsAndMode) (ht : SteadyTables s t) (p : PortId)
    (hq : ∀ q, q ≠ p → PortSteady (s.port q) (t.port q)) (hc : PortCore (t.port p))
    (hd : (t.port p).session = .down) (hb : (t.port p).lineInBreak = true) : t.portsAndMode := by
  refine ⟨fun q => ?_, ht.modeLaw hl.2 (fun hf q => ?_) (fun hs q => ?_) fun hs q hqd => ?_⟩ <;>
    by_cases hqp : q = p
  · rw [hqp]
    exact portLaw_iff.2 ⟨hc, fun _ => hd⟩
  · exact (hq q hqp).law (hl.1 q)
  · rw [hqp, hd]
    decide
  · rw [(hq q hqp).session]
    exact (hl.2.fault hf).2 q
  · rw [hqp, hd]
  · rw [(hq q hqp).session]
    exact (hl.2.startUp hs).2.2 q
  · rw [hqp, hb]
  · rw [(hq q hqp).session] at hqd
    rw [(hq q hqp).line]
    exact hl.2.heard hs q hqd

/-- A line in break keeps the law of the record but for the clause on the line. -/
theorem PortCore.lineInBreak {x : Port} (h : PortCore x) (b : Bool) :
    PortCore { x with lineInBreak := b } := { h with }

/-- The other ports when one port's record is changed. -/
theorem portSteady_updPort_ne (s : State) (f : Port → Port) {q : PortId} (h : q ≠ p) :
    PortSteady (s.port q) ((s.updPort p f).port q) := by
  rw [State.port_updPort, if_neg h]
  exact .refl _

/-- A break start (R122, R123). -/
theorem portsAndMode_breakStarts (hl : s.portsAndMode) (p : PortId) :
    (s.breakStarts p).portsAndMode := by
  have hc := (portLaw_iff.1 (hl.1 p)).1.lineInBreak true
  unfold State.breakStarts
  split
  · exact hl
  · cases hs : (s.port p).session with
    | down =>
      refine portsAndMode_down hl (steadyTables_updPort s p _) p
        (fun q => portSteady_updPort_ne s _) ?_ ?_ ?_ <;> rw [State.port_updPort_self]
      · exact hc
      · exact hs
    | announced =>
      refine portsAndMode_down hl
        ((steadyTables_updPort s p _).trans (steadyTables_updPort _ p (·.breakLink))) p
        (fun q hq => (portSteady_updPort_ne s _ hq).trans (portSteady_updPort_ne _ _ hq)) ?_ ?_ ?_ <;>
        rw [State.port_updPort_self, State.port_updPort_self]
      · exact hc.breakLink (by show (s.port p).session ≠ .up; rw [hs]; decide)
      · rfl
      · rfl
    | up =>
      obtain ⟨ht, hq, x, hx, hp⟩ := steady_endSession
        (s.updPort p fun x => { x with lineInBreak := true }) p .lineBreak
      rw [State.port_updPort_self] at hx
      refine portsAndMode_down hl
        ((steadyTables_updPort s p fun x => { x with lineInBreak := true }).trans
          (ht.trans (steadyTables_updPort _ p (·.breakLink)))) p
        (fun q hqp => (portSteady_updPort_ne s _ hqp).trans
          ((hq q hqp).trans (portSteady_updPort_ne _ _ hqp))) ?_ ?_ ?_ <;>
        rw [State.port_updPort_self]
      · rw [hp]
        exact (hx.core hc).broken
      · rfl
      · rw [hp]
        exact hx.line

/-- A break end (R122, R125). -/
theorem portsAndMode_breakEnds (hl : s.portsAndMode) (p : PortId) : (s.breakEnds p).portsAndMode := by
  unfold State.breakEnds
  split
  · next hb =>
    have hd := (hl.1 p).broken hb
    have hu : (s.port p).session ≠ .up := by rw [hd]; decide
    have hc := (portLaw_iff.1 (hl.1 p)).1.lineInBreak false
    refine ⟨fun q => ?_, (steadyTables_updPort s p _).modeLaw hl.2 (fun hf q => ?_) (fun hs q => ?_)
      fun hs q => ?_⟩ <;> rw [State.port_updPort] <;> split
    · next hq =>
      subst hq
      dsimp only
      split
      · exact portLaw_iff.2 ⟨hc, nofun⟩
      · exact portLaw_iff.2 ⟨hc.announce hu, nofun⟩
    · exact hl.1 q
    · next hq =>
      subst hq
      dsimp only
      split
      · exact hu
      · exact nofun
    · exact (hl.2.fault hf).2 q
    · next hq =>
      subst hq
      exact hd
    · exact (hl.2.startUp hs).2.2 q
    · next hq =>
      subst hq
      simp only [hs, Bool.false_eq_true, if_false]
      exact nofun
    · exact hl.2.heard hs q
  · exact hl

end Sys2Proof.Machine
end

section
namespace Sys2Proof.Machine

variable {s t u : State} {p : PortId}

/-! ### CLOSING mailboxes -/

/-- The store law's clause on one CLOSING mailbox (R30). -/
def State.closingAt (s : State) (m : MailboxId) : Prop :=
  (s.mbx m).state = .closing → (s.mbx m).queue ≠ [] ∧ s.queuedIn m = []

/-- A mailbox and the entries of its queue as they were. -/
theorem State.closingAt_congr {m : MailboxId} (h : s.closingAt m)
    (hs : (t.mbx m).state = (s.mbx m).state) (hq : (t.mbx m).queue = (s.mbx m).queue)
    (he : ∀ e ∈ (s.mbx m).queue, t.entry e = s.entry e) : t.closingAt m := fun hm => by
  obtain ⟨hne, hno⟩ := h (hs ▸ hm)
  refine ⟨by rwa [hq], State.queuedIn_eq_nil.2 fun e hm => ?_⟩
  rw [hq] at hm
  rw [State.isQueued_congr (he e hm)]
  exact State.queuedIn_eq_nil.1 hno e hm

/-- One mailbox changed to a record that is not CLOSING. -/
theorem StoreCore.law_updMbx {m : MailboxId} {f : Mailbox → Mailbox} (hc : StoreCore (s.updMbx m f))
    (hf : (f (s.mbx m)).state ≠ .closing) (ho : ∀ n, n ≠ m → s.closingAt n) :
    StoreLaw (s.updMbx m f) := by
  refine storeLaw_iff.2 ⟨hc, fun n hn => ?_⟩
  by_cases h : n = m
  · subst h
    rw [State.mbx_updMbx_self] at hn
    exact absurd hn hf
  · have hb := State.mbx_updMbx_ne s f h
    exact State.closingAt_congr (ho n h) (by rw [hb]) (by rw [hb]) (fun _ _ => rfl) hn

/-- Resolutions of entries that a mailbox does not hold. -/
theorem Gone.closingAt {es : List EntryId} {o : EntryOutcome} (h : Gone s t es o) {m : MailboxId}
    (hm : s.closingAt m) (ho : (s.mbx m).state = .closing → ∀ e ∈ (s.mbx m).queue, e ∉ es) :
    t.closingAt m := by
  obtain ⟨a, hb⟩ := h.mailboxes m
  have hs : (t.mbx m).state = (s.mbx m).state := by rw [hb]
  intro hcl
  have hout := ho (hs ▸ hcl)
  refine State.closingAt_congr hm hs ?_ (fun e he => ?_) hcl
  · rw [hb]
    exact List.filter_eq_self.2 fun e he => decide_eq_true (hout e he)
  · rw [h.entries, if_neg (hout e he)]

/-- An entry stands in the queue of one mailbox alone. -/
theorem StoreCore.queue_unique (hc : StoreCore s) {e : EntryId} {m n : MailboxId}
    (hm : e ∈ (s.mbx m).queue) (hn : e ∈ (s.mbx n).queue) : n = m := by
  obtain ⟨en, he, rfl⟩ := hc.queue m e hm
  exact (hc.mem_queue he n).1 hn

/-! ### Closes and purges keep the store law -/

/-- A mailbox without entries becomes FREE, the CLOSING ones aside it lawful. -/
theorem StoreCore.law_blank (hc : StoreCore s) {m : MailboxId} (hq : (s.mbx m).queue = [])
    (ho : ∀ n, n ≠ m → s.closingAt n) : StoreLaw (s.updMbx m fun _ => Mailbox.blank) :=
  (hc.blank hq).law_updMbx (by decide) ho

/-- The close of an OPEN mailbox (R30). -/
theorem StoreLaw.closeOpen (h : StoreLaw s) {m : MailboxId} (hm : (s.mbx m).state = .opened)
    (p : PortId) (seq : Byte) : StoreLaw (s.closeOpen p seq m).1 := by
  have hb := h.core.beginClose hm
  obtain ⟨t, hr, hall, hsome⟩ := closeOpen_spec h.core hm p seq
  have hg := hr.gone hb ((h.core.bounded m).1.sublist List.filter_sublist)
  obtain ⟨hq, -, hst, -⟩ := hg.closed
  have other : ∀ n, n ≠ m → t.closingAt n := fun n hn => by
    have hmb : (s.beginClose m).mbx n = s.mbx n := State.mbx_updMbx_ne s _ hn
    refine hg.closingAt (State.closingAt_congr (h.closing n) (by rw [hmb]) (by rw [hmb])
      fun _ _ => rfl) fun _ e he hes => hn ?_
    rw [hmb] at he
    exact h.core.queue_unique (List.mem_filter.1 hes).1 he
  by_cases hx : ∀ e ∈ (s.mbx m).queue, s.isQueued e = true
  · rw [hall hx]
    refine hg.core.law_blank ?_ other
    rw [hq]
    exact List.filter_eq_nil_iff.2 fun e he => by simp [hx e he]
  · rw [hsome hx]
    refine (SameStore.updMbx t m rfl).law (storeLaw_iff.2 ⟨hg.core, fun n => ?_⟩)
    by_cases hn : n = m
    · subst hn
      intro _
      rw [State.queuedIn_eq_nil, hq]
      refine ⟨fun h0 => hx fun e he => ?_, fun e he => ?_⟩
      · have := List.filter_eq_nil_iff.1 h0 e he
        simpa using this
      · obtain ⟨-, he'⟩ := List.mem_filter.1 he
        have hnot : s.isQueued e = false := by simpa using he'
        have hent : t.entry e = s.entry e := by
          rw [hg.entries, if_neg fun hes => by
            rw [(List.mem_filter.1 hes).2] at hnot; cases hnot]
          rfl
        rw [State.isQueued_congr hent, hnot]
    · exact other n hn

/-- The end of a DORMANT mailbox (R31, R43). -/
theorem StoreLaw.freeDormant (h : StoreLaw s) {m : MailboxId} (hm : (s.mbx m).state = .dormant) :
    StoreLaw (s.freeDormant m) := by
  have hg := (removed_dormant h.core hm).gone h.core (h.core.bounded m).1
  refine ((SameStore.leaveGroups _ m).core hg.core).law_blank ?_ fun n hn =>
    State.closingAt_congr (s := s.resolveAll (s.queuedIn m) .purged) (hg.closingAt (h.closing n)
      fun _ e he hes => hn (h.core.queue_unique hes he)) rfl rfl fun _ _ => rfl
  obtain ⟨a, hb⟩ := hg.mailboxes m
  show ((s.resolveAll (s.queuedIn m) .purged).mbx m).queue = []
  rw [hb]
  exact List.filter_eq_nil_iff.2 fun e he => by simp [he]

/-- The QUEUED entries of a message resolved (R59, R93). -/
theorem StoreLaw.resolveQueued (h : StoreLaw s) (i : DescId) (o : EntryOutcome) :
    StoreLaw (s.resolveAll (s.queuedOf i) o) := by
  have hg := (removed_queuedOf h.core i o).gone h.core (queuedOf_nodup s i)
  refine storeLaw_iff.2 ⟨hg.core, fun m => hg.closingAt (h.closing m) fun hm e he hes => ?_⟩
  obtain ⟨en, hen, -, ho⟩ := mem_queuedOf.1 hes
  have := State.queuedIn_eq_nil.1 (h.closing m hm).2 e he
  rw [State.isQueued_some hen, Entry.queued, ho] at this
  cases this

/-- CANCEL's effect (R59 to R61). -/
theorem StoreLaw.cancelAt (h : StoreLaw s) (i : DescId) (n : BitVec 32) :
    StoreLaw (s.cancelAt i n).1 := by
  have hr := h.resolveQueued i .cancelled
  unfold State.cancelAt
  dsimp only
  split
  · exact hr
  · next d hd =>
    have := (SameStore.updDesc (s.resolveAll (s.queuedOf i) .cancelled) i
      (f := fun x => { x with cancelRequested := true }) fun _ => rfl).law hr
    rwa [State.updDesc, hd] at this

/-! ### Offers that end keep the store law -/

/-- The end of a close, where the mailbox may have become empty (R32). -/
theorem StoreCore.law_closeIfEmpty (hc : StoreCore s) (hco : s.closingOffered) (m : MailboxId)
    (ho : ∀ n, n ≠ m → (s.mbx n).state = .closing → (s.mbx n).queue ≠ []) :
    StoreLaw (s.closeIfEmpty m) := by
  have other : ∀ n, n ≠ m → s.closingAt n := fun n hn hcl => ⟨ho n hn hcl, hco n hcl⟩
  unfold State.closeIfEmpty
  split
  · next hm =>
    obtain ⟨honly, hmb, hp⟩ := s.finishClose_spec m
    obtain ⟨hent, hdesc, -⟩ := honly.tables
    have hlaw := hc.law_blank hm.2 other
    refine SameStore.law (s := s.updMbx m fun _ => Mailbox.blank) ⟨hent, fun i => ?_, fun n => ?_,
      fun q => ?_⟩ hlaw
    · show ((s.finishClose m).descriptors.get i).map _ = _
      rw [hdesc]
      rfl
    · rw [hmb, State.mbx_updMbx]
    · rw [hp]
      split
      · rw [Port.complete_eq]
        exact ⟨rfl, rfl, id⟩
      · exact ⟨rfl, rfl, id⟩
  · next hm =>
    refine storeLaw_iff.2 ⟨hc, fun n => ?_⟩
    by_cases hn : n = m
    · subst hn
      exact fun hcl => ⟨fun hq => hm ⟨hcl, hq⟩, hco n hcl⟩
    · exact other n hn

/-- An entry resolved, and the close of a mailbox that it empties (R14, R15, R32). -/
theorem StoreLaw.resolve_close (h : StoreLaw s) {e : EntryId} {en : Entry} (he : s.entry e = some en)
    (o : EntryOutcome) : StoreLaw ((s.resolve e o).closeIfEmpty en.mailbox) := by
  obtain ⟨d, hd, hr⟩ := h.core.message he
  have hset := settled_resolve o he hd hr
  refine (hset.storeCore h.core he hd).law_closeIfEmpty
    (hset.closingOffered h.core he h.closingOffered) _ fun n hn hcl => ?_
  obtain ⟨a, hmb⟩ := hset.mbx h.core he n
  rw [hmb] at hcl ⊢
  show without (s.mbx n).queue e ≠ []
  rw [without_of_not_mem fun hm => hn ((h.core.mem_queue he n).1 hm)]
  exact (h.closing n hcl).1

/-- What the table asks for a requeue: the mailbox is not CLOSING, and attempts are left (R82). -/
theorem nonAcceptingOutcome_none {d : Descriptor} {x : Mailbox} {n : Nat}
    (h : nonAcceptingOutcome d x n true = none) : x.state ≠ .closing ∧ n ≠ x.retryLimit := by
  unfold nonAcceptingOutcome at h
  split_ifs at h with h1 h2 h3 h4
  exact ⟨h3, fun hn => h4 ⟨rfl, hn⟩⟩

/-- An unaccepted offer (R82, R83). -/
theorem StoreLaw.unaccepted_close (h : StoreLaw s) {e : EntryId} {en : Entry}
    (he : s.entry e = some en) (hq : en.queued = false) :
    StoreLaw ((s.nonAccepting e true).closeIfEmpty en.mailbox) := by
  obtain ⟨d, hd, hr⟩ := h.core.message he
  cases ho : nonAcceptingOutcome d (s.mbx en.mailbox) en.attempts true with
  | some o =>
    rw [nonAccepting_resolve he hd ho]
    exact h.resolve_close he o
  | none =>
    obtain ⟨hcl, hne⟩ := nonAcceptingOutcome_none ho
    have hatt := h.attempts e en he
    rw [hq] at hatt
    rw [nonAccepting_requeue he hd ho, State.requeued_eq]
    exact (h.core.putBack he (lt_of_le_of_ne hatt.2 hne)).law_closeIfEmpty
      (State.closingOffered_putBack h.core he h.closingOffered hcl) _
      fun n _ hn => (h.closing n hn).1

end Sys2Proof.Machine
end

section
namespace Sys2Proof.Machine

variable {s t u : State} {p : PortId} {e : EntryId} {en x : Entry}

/-! ### An entry whose offer begins or passes on -/

/-- An entry replaced by one of the same message and the same mailbox, the rest of the store, the mailboxes and
the sessions as they were. -/
structure Reoffered (s t : State) (e : EntryId) (en x : Entry) : Prop where
  before : s.entry e = some en
  descriptor : x.descriptor = en.descriptor
  mailbox : x.mailbox = en.mailbox
  entries : t.entries = s.entries.set e (some x)
  descriptors : t.descriptors = s.descriptors
  mailboxes : t.mailboxes = s.mailboxes
  sessions : ∀ q, (t.port q).session = (s.port q).session

section
variable (h : Reoffered s t e en x)
include h

theorem Reoffered.entry (f : EntryId) : t.entry f = if f = e then some x else s.entry f :=
  (congrArg (·.get f) h.entries).trans (Table.get_set _ _ _ _)

theorem Reoffered.entry_self : t.entry e = some x := by rw [h.entry, if_pos rfl]

theorem Reoffered.entry_ne {f : EntryId} (hf : f ≠ e) : t.entry f = s.entry f := by
  rw [h.entry, if_neg hf]

theorem Reoffered.mbx (m : MailboxId) : t.mbx m = s.mbx m := congrArg (·.get m) h.mailboxes

theorem Reoffered.desc (i : DescId) : t.desc i = s.desc i := congrArg (·.get i) h.descriptors

/-- Every entry names the message and the mailbox that it named. -/
theorem Reoffered.origin {f : EntryId} {y : Entry} (hy : t.entry f = some y) :
    ∃ z, s.entry f = some z ∧ z.descriptor = y.descriptor ∧ z.mailbox = y.mailbox := by
  rw [h.entry] at hy
  split at hy
  · next hf => cases hy; exact ⟨en, hf ▸ h.before, h.descriptor.symm, h.mailbox.symm⟩
  · exact ⟨y, hy, rfl, rfl⟩

theorem Reoffered.key (f : EntryId) : t.key f = s.key f := by
  by_cases hf : f = e
  · subst hf
    unfold State.key
    simp only [h.entry_self, h.before, h.descriptor, h.desc]
  · exact State.key_congr (h.entry_ne hf) h.descriptors

theorem Reoffered.entriesOf (i : DescId) : t.entriesOf i = s.entriesOf i := by
  have hset := State.entriesOf_setEntry s e (some x) i
  rw [h.before, Option.map_some, Option.map_some, h.descriptor] at hset
  have : t.entriesOf i = (s.setEntry e (some x)).entriesOf i :=
    congrArg (fun es : Table (Option Entry) 256 => es.count _) h.entries
  rw [this]
  exact Nat.add_right_cancel hset

/-- The core of the store law, given the clauses on attempts, DORMANT mailboxes and in-flight lists. -/
theorem Reoffered.core (hc : StoreCore s)
    (attempts : if x.queued then x.attempts < (s.mbx en.mailbox).retryLimit
      else 1 ≤ x.attempts ∧ x.attempts ≤ (s.mbx en.mailbox).retryLimit)
    (dormant : (s.mbx en.mailbox).state ≠ .dormant)
    (flight : ∀ q f, f ∈ (t.port q).inFlight →
      ∃ y, t.entry f = some y ∧ y.queued = false ∧ (s.mbx y.mailbox).owner = q)
    (offered : ∀ f y, t.entry f = some y → y.queued = false →
      f ∈ (t.port (s.mbx y.mailbox).owner).inFlight)
    (once : ∀ q, (t.port q).inFlight.Nodup)
    (prepared : ∀ q pr, (t.port q).prepared = some pr → pr.entry ∈ (t.port q).inFlight)
    (phase : ∀ q f y o, f ∈ (t.port q).inFlight → t.entry f = some y → y.offer = some o →
      (o.phase = .sending ↔ (t.port q).prepared.map (·.entry) = some f))
    (ids : ∀ q, ((t.port q).inFlight.map t.offerIdOf).Nodup) : StoreCore t where
  entry f y hy := by
    obtain ⟨z, hz, hzd, hzm⟩ := h.origin hy
    rw [h.desc, h.mbx, ← hzd, ← hzm]
    exact hc.entry f z hz
  settings m := by rw [h.mbx]; exact hc.settings m
  attempts f y hy := by
    rw [h.mbx]
    rw [h.entry] at hy
    split at hy
    · cases hy; rw [h.mailbox]; exact attempts
    · exact hc.attempts f y hy
  queue m f hf := by
    rw [h.mbx] at hf
    obtain ⟨z, hz, rfl⟩ := hc.queue m f hf
    by_cases hfe : f = e
    · subst hfe
      rw [h.before] at hz
      cases hz
      exact ⟨x, h.entry_self, h.mailbox⟩
    · exact ⟨z, (h.entry_ne hfe).trans hz, rfl⟩
  bounded m := by rw [h.mbx]; exact hc.bounded m
  sorted m := by simp only [h.mbx, h.key]; exact hc.sorted m
  references i d hd := by rw [h.entriesOf]; exact hc.references i d (h.desc i ▸ hd)
  tally i d hd := hc.tally i d (h.desc i ▸ hd)
  distinct f g y z hf hg hd hm := by
    obtain ⟨y', hy, hyd, hym⟩ := h.origin hf
    obtain ⟨z', hz, hzd, hzm⟩ := h.origin hg
    exact hc.distinct f g y' z' hy hz (by rw [hyd, hzd, hd]) (by rw [hym, hzm, hm])
  flight := by simpa only [h.mbx] using flight
  offered := by simpa only [h.mbx] using offered
  once := once
  prepared := prepared
  phase := phase
  ids := ids
  dormant m hm f hf := by
    rw [h.mbx] at hm hf
    have hne : f ≠ e := fun hfe => by
      subst hfe
      rw [(hc.mem_queue h.before m).1 hf] at hm
      exact dormant hm
    rw [State.isQueued_congr (h.entry_ne hne)]
    exact hc.dormant m hm f hf
  owner m := by rw [h.mbx, h.sessions]; exact hc.owner m

/-- The store law, given its core: the entry's mailbox is not CLOSING, or the entry is OFFERED. -/
theorem Reoffered.law (hl : StoreLaw s) (hc : StoreCore t)
    (hx : (s.mbx en.mailbox).state ≠ .closing ∨ x.queued = false) : StoreLaw t := by
  refine storeLaw_iff.2 ⟨hc, fun m hm => ?_⟩
  rw [State.queuedIn_eq_nil, h.mbx]
  rw [h.mbx] at hm
  obtain ⟨hne, hno⟩ := hl.closing m hm
  refine ⟨hne, fun f hf => ?_⟩
  by_cases hfe : f = e
  · subst hfe
    rcases hx with hx | hx
    · rw [(hl.core.mem_queue h.before m).1 hf] at hm
      exact absurd hm hx
    · rw [State.isQueued_some h.entry_self, hx]
  · rw [State.isQueued_congr (h.entry_ne hfe)]
    exact State.queuedIn_eq_nil.1 hno f hf

end

/-! ### The last byte of an OFFER (R72, R160) -/

/-- The prepared offer of a port is its one entry in phase SENDING. -/
theorem StoreCore.prepared_entry (hc : StoreCore s) {pr : Prepared}
    (h : (s.port p).prepared = some pr) : ∃ en o, s.entry pr.entry = some en ∧
      en.offer = some o ∧ (s.mbx en.mailbox).owner = p := by
  obtain ⟨en, he, hq, ho⟩ := hc.flight p pr.entry (hc.prepared p pr h)
  obtain ⟨o, ho'⟩ := Option.ne_none_iff_exists'.1 fun hn : en.offer = none => by
    rw [Entry.queued, hn] at hq
    cases hq
  exact ⟨en, o, he, ho', ho⟩

/-- An OFFER has been sent: its entry is AWAITING, and the port prepares none (R72, R160). -/
theorem StoreLaw.offerSent (h : StoreLaw s) {pr : Prepared} (hpr : (s.port p).prepared = some pr) :
    StoreLaw ((s.offerSent pr.entry).updPort p fun x =>
      { x.freeTransmitter with prepared := none }) := by
  have hc := h.core
  have hmem := hc.prepared p pr hpr
  obtain ⟨en, o, he, ho, hown⟩ := hc.prepared_entry hpr
  generalize hn : s.now + (s.mbx en.mailbox).ackWindow = n
  generalize ht : ((s.offerSent pr.entry).updPort p fun x =>
    { x.freeTransmitter with prepared := none }) = t
  have hport : ∀ q, (t.port q).inFlight = (s.port q).inFlight ∧
      (t.port q).session = (s.port q).session ∧
      (t.port q).prepared = if q = p then none else (s.port q).prepared := fun q => by
    rw [← ht, State.port_updPort]
    split
    · next hq => subst hq; exact ⟨rfl, rfl, rfl⟩
    · exact ⟨rfl, rfl, rfl⟩
  have hr : Reoffered s t pr.entry en { en with offer := some { o with phase := .awaiting n } } := by
    refine ⟨he, rfl, rfl, ?_, by rw [← ht]; rfl, by rw [← ht]; rfl, fun q => (hport q).2.1⟩
    rw [← ht]
    show (s.entries.modify pr.entry _) = _
    refine Table.ext_get fun f => ?_
    rw [Table.get_modify, Table.get_set]
    split
    · next hf =>
      have : s.entries.get f = some en := by rw [hf]; exact he
      rw [this, Option.map_some, ho, Option.map_some, hn]
    · rfl
  have offer : ∀ f, t.offerIdOf f = s.offerIdOf f := fun f => by
    by_cases hf : f = pr.entry
    · subst hf
      unfold State.offerIdOf
      rw [hr.entry_self, he, Option.bind_some, Option.bind_some, ho]
      rfl
    · exact State.offerIdOf_congr (hr.entry_ne hf)
  have hq : en.queued = false := by rw [Entry.queued, ho]; rfl
  have hatt := hc.attempts pr.entry en he
  rw [hq] at hatt
  refine hr.law h (hr.core hc hatt (fun hd => ?_) (fun q f hf => ?_) (fun f y hy hyq => ?_)
    (fun q => ?_) (fun q pr' hpr' => ?_) (fun q f y w hf hy hw => ?_) fun q => ?_) (.inr rfl)
  · have := hc.dormant _ hd pr.entry (hc.entry _ _ he).2
    rw [State.isQueued_some he, hq] at this
    cases this
  · rw [(hport q).1] at hf
    obtain ⟨y, hy, hyq, hyo⟩ := hc.flight q f hf
    by_cases hfe : f = pr.entry
    · subst hfe
      rw [he] at hy
      cases hy
      exact ⟨_, hr.entry_self, rfl, hyo⟩
    · exact ⟨y, (hr.entry_ne hfe).trans hy, hyq, hyo⟩
  · rw [(hport _).1]
    rw [hr.entry] at hy
    split at hy
    · next hfe =>
      cases hy
      subst hfe
      rw [hown]
      exact hmem
    · exact hc.offered f y hy hyq
  · rw [(hport q).1]
    exact hc.once q
  · rw [(hport q).2.2] at hpr'
    split at hpr'
    · cases hpr'
    · rw [(hport q).1]
      exact hc.prepared q pr' hpr'
  · rw [(hport q).1] at hf
    rw [(hport q).2.2]
    rw [hr.entry] at hy
    by_cases hfe : f = pr.entry
    · subst hfe
      rw [if_pos rfl] at hy
      cases hy
      cases hw
      have hqp : q = p := by
        obtain ⟨z, hz, -, hzo⟩ := hc.flight q _ hf
        rw [he] at hz
        cases hz
        rw [← hzo, hown]
      rw [if_pos hqp]
      exact ⟨nofun, nofun⟩
    · rw [if_neg hfe] at hy
      have hph := hc.phase q f y w hf hy hw
      split
      · next hqp =>
        subst hqp
        rw [hpr] at hph
        rw [hph]
        exact ⟨fun hx => absurd (Option.some.inj hx).symm hfe, nofun⟩
      · exact hph
  · rw [(hport q).1, List.map_congr_left fun f _ => offer f]
    exact hc.ids q

/-! ### A selection (R66 to R70) -/

/-- The best candidate is a candidate (R68). -/
theorem bestCandidate_mem (h : s.bestCandidate p = some e) : e ∈ s.candidates p := by
  have go : ∀ (es : List EntryId) (b : Option EntryId), es.foldl s.better b = some e →
      b = some e ∨ e ∈ es := by
    intro es
    induction es with
    | nil => exact fun b hb => .inl hb
    | cons f rest ih =>
      intro b hb
      rcases ih _ hb with hb | hm
      · unfold State.better at hb
        split at hb
        · cases hb; exact .inr (List.mem_cons_self ..)
        · split at hb
          · cases hb; exact .inr (List.mem_cons_self ..)
          · exact .inl hb
      · exact .inr (List.mem_cons_of_mem _ hm)
  exact (go _ none h).resolve_left nofun

/-- A candidate is a QUEUED entry of an OPEN mailbox of the port (R66). -/
theorem mem_candidates (h : e ∈ s.candidates p) : ∃ m, (s.mbx m).owner = p ∧
    (s.mbx m).state = .opened ∧ e ∈ (s.mbx m).queue ∧ s.isQueued e = true := by
  obtain ⟨m, -, hm⟩ := List.mem_flatMap.1 h
  dsimp only at hm
  split at hm
  · next hx => exact ⟨m, hx.1, hx.2.1, (List.mem_filter.1 hm).1, (List.mem_filter.1 hm).2⟩
  · cases hm

/-- With fewer than 256 ids in use the offer id chosen is not one of them (R70). -/
theorem freshOfferId_not_mem {ids : List Byte} (h : ids.length < 256) (next : Byte) :
    freshOfferId ids next ∉ ids := by
  unfold freshOfferId
  cases hf : ((List.range 256).map fun k => next + BitVec.ofNat 8 k).find? fun i =>
    decide (i ∉ ids) with
  | some i => simpa using List.find?_some hf
  | none =>
    have hall : ((List.range 256).map fun k => next + BitVec.ofNat 8 k) ⊆ ids := fun i hi => by
      simpa using List.find?_eq_none.1 hf i hi
    have hn : ((List.range 256).map fun k => next + BitVec.ofNat 8 k).Nodup := by
      refine List.Nodup.map_on (fun a ha b hb hab => ?_) List.nodup_range
      have ha := List.mem_range.1 ha
      have hb := List.mem_range.1 hb
      bv_omega
    have := (hn.subperm hall).length_le
    rw [List.length_map, List.length_range] at this
    omega

/-- The ids in flight are those of the entries in flight (R70). -/
theorem StoreCore.idsInFlight (hc : StoreCore s) (p : PortId) :
    (s.port p).inFlight.map s.offerIdOf = (s.idsInFlight p).map some := by
  have go : ∀ es : List EntryId, (∀ f ∈ es, (s.offerIdOf f).isSome) →
      es.map s.offerIdOf = (es.filterMap s.offerIdOf).map some := by
    intro es
    induction es with
    | nil => exact fun _ => rfl
    | cons f rest ih =>
      intro h
      obtain ⟨i, hi⟩ := Option.isSome_iff_exists.1 (h f (List.mem_cons_self ..))
      rw [List.map_cons, List.filterMap_cons_some hi, List.map_cons, hi,
        ih fun g hg => h g (List.mem_cons_of_mem _ hg)]
  refine go _ fun f hf => ?_
  obtain ⟨y, hy, hyq, -⟩ := hc.flight p f hf
  unfold State.offerIdOf
  rw [hy, Option.bind_some]
  cases ho : y.offer with
  | none => rw [Entry.queued, ho] at hyq; cases hyq
  | some o => rfl

/-- A selection of a QUEUED entry of an OPEN mailbox of the port (R69, R70). -/
theorem StoreLaw.offerEntry (h : StoreLaw s) {m : MailboxId} (hown : (s.mbx m).owner = p)
    (hopen : (s.mbx m).state = .opened) (hm : e ∈ (s.mbx m).queue) (hq : s.isQueued e = true)
    (hnone : (s.port p).prepared = none) (hlen : (s.port p).inFlight.length < 256) :
    StoreLaw (s.offerEntry p e) := by
  have hc := h.core
  obtain ⟨en, he, rfl⟩ := hc.queue m e hm
  obtain ⟨d, hd, -⟩ := hc.message he
  rw [State.isQueued_some he] at hq
  have hids := hc.idsInFlight p
  have hfresh := freshOfferId_not_mem (ids := s.idsInFlight p) (by
    have := congrArg List.length hids
    rw [List.length_map, List.length_map] at this
    omega) (s.port p).nextOfferId
  have hnot : ∀ q, e ∉ (s.port q).inFlight := fun q hf => by
    obtain ⟨y, hy, hyq, -⟩ := hc.flight q e hf
    rw [he] at hy
    cases hy
    rw [hq] at hyq
    cases hyq
  generalize ht : s.offerEntry p e = t
  simp only [State.offerEntry, he, hd] at ht
  generalize freshOfferId (s.idsInFlight p) (s.port p).nextOfferId = id at ht hfresh
  have hport : ∀ q, (t.port q).session = (s.port q).session ∧
      (t.port q).inFlight = (if q = p then (s.port q).inFlight ++ [e] else (s.port q).inFlight) ∧
      (t.port q).prepared.map (·.entry) =
        if q = p then some e else (s.port q).prepared.map (·.entry) := fun q => by
    rw [← ht, State.port_updPort]
    split
    · next hq => subst hq; exact ⟨rfl, rfl, rfl⟩
    · exact ⟨rfl, rfl, rfl⟩
  have hflight : ∀ q f, f ∈ (t.port q).inFlight ↔
      f ∈ (s.port q).inFlight ∨ (f = e ∧ q = p) := fun q f => by
    rw [(hport q).2.1]
    split
    · next hq => rw [List.mem_append, List.mem_singleton]; simp [hq]
    · next hq => simp [hq]
  have hr : Reoffered s t e en { en with
      attempts := en.attempts + 1, offer := some { id := id, phase := .sending } } := by
    refine ⟨he, rfl, rfl, ?_, ?_, ?_, fun q => (hport q).1⟩ <;> rw [← ht] <;> rfl
  have hatt := hc.attempts e en he
  rw [hq] at hatt
  refine hr.law h (hr.core hc ⟨Nat.succ_pos _, hatt⟩ (by rw [hopen]; decide) (fun q f hf => ?_)
    (fun f y hy hyq => ?_) (fun q => ?_) (fun q pr hpr => ?_) (fun q f y w hf hy hw => ?_)
    fun q => ?_) (.inr rfl)
  · rcases (hflight q f).1 hf with hf | ⟨rfl, rfl⟩
    · obtain ⟨y, hy, hyq, hyo⟩ := hc.flight q f hf
      exact ⟨y, (hr.entry_ne fun hfe => hnot q (hfe ▸ hf)).trans hy, hyq, hyo⟩
    · exact ⟨_, hr.entry_self, rfl, hown⟩
  · rw [hflight]
    rw [hr.entry] at hy
    split at hy
    · next hfe => cases hy; exact .inr ⟨hfe, hown⟩
    · exact .inl (hc.offered f y hy hyq)
  · rw [(hport q).2.1]
    split
    · exact (hc.once q).append (List.nodup_singleton e) (List.disjoint_singleton.2 (hnot q))
    · exact hc.once q
  · have hpr' : (t.port q).prepared.map (·.entry) = some pr.entry := by rw [hpr]; rfl
    rw [hflight]
    rw [(hport q).2.2] at hpr'
    split at hpr'
    · next hqp => exact .inr ⟨(Option.some.inj hpr').symm, hqp⟩
    · obtain ⟨pr', hpr'', hx⟩ := Option.map_eq_some_iff.1 hpr'
      exact .inl (hx ▸ hc.prepared q pr' hpr'')
  · rw [(hport q).2.2]
    rcases (hflight q f).1 hf with hf | ⟨rfl, rfl⟩
    · have hfe : f ≠ e := fun hfe => hnot q (hfe ▸ hf)
      rw [hr.entry_ne hfe] at hy
      have hph := hc.phase q f y w hf hy hw
      split
      · next hqp =>
        subst hqp
        rw [hph, hnone]
        exact ⟨nofun, fun hx => absurd (Option.some.inj hx).symm hfe⟩
      · exact hph
    · rw [hr.entry_self] at hy
      cases hy
      cases hw
      simp
  · rw [(hport q).2.1]
    have hold : (s.port q).inFlight.map t.offerIdOf = (s.port q).inFlight.map s.offerIdOf :=
      List.map_congr_left fun f hf =>
        State.offerIdOf_congr (hr.entry_ne fun hfe => hnot q (hfe ▸ hf))
    split
    · next hqp =>
      subst hqp
      have hnew : t.offerIdOf e = some id := by
        unfold State.offerIdOf
        rw [hr.entry_self]
        rfl
      rw [List.map_append, hold, List.map_singleton, hnew]
      refine (hc.ids q).append (List.nodup_singleton _) (List.disjoint_singleton.2 ?_)
      rw [hids]
      intro hx
      obtain ⟨i, hi, hii⟩ := List.mem_map.1 hx
      cases hii
      exact hfresh hi
    · rw [hold]
      exact hc.ids q

/-- A selection keeps the store law (R66). -/
theorem StoreLaw.select (h : StoreLaw s) (hp : s.portsLawful) (p : PortId) :
    StoreLaw (s.select p) := by
  unfold State.select
  split
  · next hm =>
    obtain ⟨hup, hlen, hnone⟩ := mayOffer_iff hm
    split
    · next e hb =>
      obtain ⟨m, hown, hopen, hq, hqd⟩ := mem_candidates (bestCandidate_mem hb)
      obtain ⟨-, w, hw, -, h4, -⟩ := (hp p).window hup
      rw [hw] at hlen
      have hlen : (s.port p).inFlight.length < w := hlen
      exact h.offerEntry hown hopen hq hqd hnone (by omega)
    · exact h
  · exact h

end Sys2Proof.Machine
end

section
namespace Sys2Proof.Machine

variable {s t u : State} {p : PortId} {i : DescId} {ts : List MailboxId} {es : List EntryId}

/-! ### The targets of an accepted SEND (R49 to R53) -/

/-- What an accepted SEND finds at a target: a mailbox OPEN or DORMANT with room. -/
def State.takes (s : State) (m : MailboxId) : Prop :=
  (s.mbx m).state.live ∧ s.isFull m = false

/-- The targets are distinct mailboxes that take the message, one at least. -/
theorem targets_take (hg : s.groupsLawful) {dest : Destination} {k : Nat}
    (h : s.targets dest = .ok (ts, k)) : ts ≠ [] ∧ ts.Nodup ∧ ∀ m ∈ ts, s.takes m := by
  cases dest with
  | unicast m =>
    have one : (s.mbx m).state.live →
        (if s.isFull m then Except.error Status.full else .ok ([m], 0)) = .ok (ts, k) →
        ts ≠ [] ∧ ts.Nodup ∧ ∀ n ∈ ts, s.takes n := fun hl hx => by
      split at hx
      · cases hx
      · next hf =>
        cases hx
        exact ⟨List.cons_ne_nil _ _, List.nodup_singleton m, fun n hn => by
          rw [List.mem_singleton.1 hn]
          exact ⟨hl, Bool.eq_false_iff.2 hf⟩⟩
    change s.unicastTargets m = _ at h
    unfold State.unicastTargets at h
    cases hs : (s.mbx m).state with
    | free => rw [hs] at h; cases h
    | closing => rw [hs] at h; cases h
    | opened => rw [hs] at h; exact one (.inl hs) h
    | dormant => rw [hs] at h; exact one (.inr hs) h
  | fanOut g =>
    obtain ⟨hn, -, -, hlive⟩ := hg g
    change s.groupTargets g = _ at h
    by_cases hm : (s.grp g).members = []
    · unfold State.groupTargets at h
      simp only [hm, if_true] at h
      split at h <;> cases h
    · cases hp : (s.grp g).policy with
      | none => simp [State.groupTargets, hp] at h
      | some policy =>
        cases policy with
        | strict =>
          rw [groupTargets_strict hp hm] at h
          split at h
          · next hr =>
            cases h
            exact ⟨hm, hn, fun m hmem => ⟨hlive m hmem, roomy_length.1 hr m hmem⟩⟩
          · cases h
        | lenient =>
          rw [groupTargets_lenient hp hm] at h
          split at h
          · cases h
          · next hr =>
            cases h
            refine ⟨hr, hn.sublist List.filter_sublist, fun m hmem => ?_⟩
            obtain ⟨hmem, hf⟩ := List.mem_filter.1 hmem
            exact ⟨hlive m hmem, by simpa using hf⟩

/-! ### An accepted message in the store (R11) -/

/-- The entries of an accepted message, seen one by one: each is in the queue of one of its targets. -/
theorem Enqueued.entry_new (h : Enqueued s t i ts es) {e : EntryId} (he : e ∈ es) :
    ∃ m ∈ ts, s.entry e = none ∧ t.entry e = some (newEntry i m) := by
  obtain ⟨k, hk, rfl⟩ := List.mem_iff_getElem.1 he
  have hlt : k < ts.length := h.one.1 ▸ hk
  obtain ⟨h1, h2⟩ := h.created k _ _ (List.getElem?_eq_getElem hlt) (List.getElem?_eq_getElem hk)
  exact ⟨ts[k], List.getElem_mem hlt, h1, h2⟩

/-- Two entries of an accepted message are in different queues. -/
theorem Enqueued.entry_unique (h : Enqueued s t i ts es) (hn : ts.Nodup) {e f : EntryId}
    {m : MailboxId} (he : e ∈ es) (hf : f ∈ es) (hem : t.entry e = some (newEntry i m))
    (hfm : t.entry f = some (newEntry i m)) : e = f := by
  obtain ⟨j, hj, rfl⟩ := List.mem_iff_getElem.1 he
  obtain ⟨k, hk, rfl⟩ := List.mem_iff_getElem.1 hf
  have hjt : j < ts.length := h.one.1 ▸ hj
  have hkt : k < ts.length := h.one.1 ▸ hk
  have h1 := (h.created j _ _ (List.getElem?_eq_getElem hjt) (List.getElem?_eq_getElem hj)).2
  have h2 := (h.created k _ _ (List.getElem?_eq_getElem hkt) (List.getElem?_eq_getElem hk)).2
  rw [hem] at h1
  rw [hfm] at h2
  have : ts[j] = ts[k] := by
    have a := congrArg (·.map Entry.mailbox) h1
    have b := congrArg (·.map Entry.mailbox) h2
    simp only [newEntry, Option.map_some, Option.some.injEq] at a b
    rw [← a, ← b]
  have : j = k := (hn.getElem_inj_iff).1 this
  subst this
  rfl

/-- A mailbox after the entries are made: only its queue and its arming differ, and the queue has at most the
one new entry in its place. -/
theorem Enqueued.mbx (h : Enqueued s t i ts es) (hn : ts.Nodup) (hq : ∀ m, QueueFits s m)
    (hnodup : ∀ m, (s.mbx m).queue.Nodup) (m : MailboxId) :
    ∃ q a, t.mbx m = { s.mbx m with queue := q, armed := a } ∧
      (m ∉ ts → q = (s.mbx m).queue) ∧
      (∀ e, e ∈ q ↔ e ∈ (s.mbx m).queue ∨ (e ∈ es ∧ t.entry e = some (newEntry i m))) ∧
      q.Nodup ∧ q.length ≤ (s.mbx m).queue.length + 1 ∧
      q.Pairwise fun a b => keyAhead (t.key b) (t.key a) = false := by
  have old : ∀ {n e}, e ∈ (s.mbx n).queue → e ∉ es := fun {n e} he hes => by
    obtain ⟨-, -, hnone, -⟩ := h.entry_new hes
    exact (hq n).some e he hnone
  have key : ∀ e ∈ (s.mbx m).queue, t.key e = s.key e := fun e he =>
    State.key_congr (h.entries e (old he)) h.descriptors
  have sorted : (s.mbx m).queue.Pairwise fun a b => keyAhead (t.key b) (t.key a) = false :=
    (hq m).sorted.imp_of_mem fun {a b} ha hb hab => by rw [key a ha, key b hb]; exact hab
  by_cases hm : m ∈ ts
  · obtain ⟨k, hk, rfl⟩ := List.mem_iff_getElem.1 hm
    have hke : k < es.length := h.one.1 ▸ hk
    obtain ⟨a, b, hab, ha, hb, hmb⟩ :=
      h.queued k _ _ (List.getElem?_eq_getElem hk) (List.getElem?_eq_getElem hke)
    obtain ⟨-, hnew⟩ :=
      h.created k _ _ (List.getElem?_eq_getElem hk) (List.getElem?_eq_getElem hke)
    have hnot : es[k] ∉ a ++ b := fun hx => old (hab ▸ hx) (List.getElem_mem hke)
    refine ⟨_, _, hmb, fun hx => absurd hm hx, fun e => ?_, ?_, ?_, ?_⟩
    · rw [hab, List.mem_append, List.mem_cons, List.mem_append]
      constructor
      · rintro (hx | rfl | hx)
        · exact .inl (.inl hx)
        · exact .inr ⟨List.getElem_mem hke, hnew⟩
        · exact .inl (.inr hx)
      · rintro ((hx | hx) | ⟨hx, he⟩)
        · exact .inl hx
        · exact .inr (.inr hx)
        · exact .inr (.inl (h.entry_unique hn hx (List.getElem_mem hke) he hnew))
    · exact (List.perm_middle.nodup_iff).2
        (List.nodup_cons.2 ⟨hnot, hab ▸ hnodup _⟩)
    · rw [hab]
      simp only [List.length_append, List.length_cons]
      omega
    · rw [hab] at sorted
      obtain ⟨pa, pb, pab⟩ := List.pairwise_append.1 sorted
      refine List.pairwise_append.2 ⟨pa, List.pairwise_cons.2 ⟨fun x hx => ?_, pb⟩,
        fun x hx y hy => ?_⟩
      · have := hb x hx
        simp only [keyAhead, decide_eq_true_eq, decide_eq_false_iff_not] at this ⊢
        omega
      · rcases List.mem_cons.1 hy with rfl | hy
        · exact ha x hx
        · exact pab x hx y hy
  · refine ⟨_, (s.mbx m).armed, by rw [h.mailboxes m hm], fun _ => rfl, fun e => ?_, hnodup m,
      Nat.le_succ _, sorted⟩
    refine ⟨.inl, fun hx => hx.resolve_right fun ⟨hes, he⟩ => hm ?_⟩
    obtain ⟨n, hn, -, hne⟩ := h.entry_new hes
    rw [he] at hne
    have := congrArg (·.map Entry.mailbox) hne
    simp only [newEntry, Option.map_some, Option.some.injEq] at this
    rw [this]
    exact hn

/-- The number of entries that name a message, entry by entry. -/
theorem State.entriesOf_filter (s : State) (j : DescId) : s.entriesOf j =
    ((List.finRange 256).filter fun e =>
      decide ((s.entry e).map (·.descriptor) = some j)).length := by
  rw [State.entriesOf, Table.count_eq_length_indices]
  refine congrArg List.length (List.filter_congr fun e _ => ?_)
  have he : s.entries.get e = s.entry e := rfl
  rw [he]
  cases s.entry e <;> simp

/-- The entries that name a message, by a list of them. -/
theorem State.entriesOf_eq (s : State) {j : DescId} {fs : List EntryId} (hn : fs.Nodup)
    (h : ∀ e, e ∈ fs ↔ (s.entry e).map (·.descriptor) = some j) : s.entriesOf j = fs.length := by
  rw [s.entriesOf_filter]
  refine List.Perm.length_eq ((List.perm_ext_iff_of_nodup
    ((List.nodup_finRange 256).sublist List.filter_sublist) hn).2 fun e => ?_)
  rw [h e]
  simp

section
variable {f : SendFields} {k : Nat}

/-- The messages after one is taken in. -/
theorem desc_takeIn (s : State) (p : PortId) (f : SendFields) (n k : Nat) (i j : DescId) :
    (s.takeIn p f n k i).desc j = if j = i then
      some (s.newDescriptor p f (s.takeable (buffersFor f.payload.length)) n k) else s.desc j := by
  by_cases hj : j = i
  · subst hj
    rw [if_pos rfl]
    exact State.desc_setDesc_self _ _ _
  · rw [if_neg hj]
    exact State.desc_setDesc_ne _ _ hj

/-- An accepted message and its entries keep the store law (R4, R11, R12, R23). -/
theorem StoreLaw.enqueued (hl : StoreLaw s) (hi : s.desc i = none)
    (h : Enqueued (s.takeIn p f ts.length k i) t i ts es) (hne : ts ≠ []) (hn : ts.Nodup)
    (htake : ∀ m ∈ ts, s.takes m) : StoreLaw t := by
  have hc := hl.core
  have hmb := h.mbx hn (hc.queueFits_takeIn hi p f _ k) fun m => (hc.bounded m).1
  have hdesc : ∀ j, t.desc j = (s.takeIn p f ts.length k i).desc j := fun j =>
    congrArg (·.get j) h.descriptors
  have hold : ∀ e, e ∉ es → t.entry e = s.entry e := h.entries
  have hnot : ∀ {e en}, s.entry e = some en → e ∉ es := fun {e en} he hes => by
    obtain ⟨-, -, hnone, -⟩ := h.entry_new hes
    have hnone : s.entry e = none := hnone
    rw [he] at hnone
    cases hnone
  have hkeep : ∀ {e en}, s.entry e = some en → t.entry e = some en := fun he =>
    (hold _ (hnot he)).trans he
  have hlive : ∀ {e en}, s.entry e = some en → en.descriptor ≠ i := fun {e en} he hd => by
    obtain ⟨d, hd', -⟩ := hc.message he
    rw [hd, hi] at hd'
    cases hd'
  have origin : ∀ e en, t.entry e = some en →
      (e ∈ es ∧ ∃ m ∈ ts, en = newEntry i m) ∨ (e ∉ es ∧ s.entry e = some en) := fun e en he => by
    by_cases hes : e ∈ es
    · obtain ⟨m, hm, -, hnew⟩ := h.entry_new hes
      rw [he] at hnew
      exact .inl ⟨hes, m, hm, Option.some.inj hnew⟩
    · exact .inr ⟨hes, (hold e hes).symm.trans he⟩
  have set : ∀ m, (t.mbx m).state = (s.mbx m).state ∧ (t.mbx m).owner = (s.mbx m).owner ∧
      (t.mbx m).depth = (s.mbx m).depth ∧ (t.mbx m).ackWindow = (s.mbx m).ackWindow ∧
      (t.mbx m).retryLimit = (s.mbx m).retryLimit ∧
      (t.mbx m).watermark = (s.mbx m).watermark := fun m => by
    obtain ⟨q, a, hm, -⟩ := hmb m
    rw [hm]
    exact ⟨rfl, rfl, rfl, rfl, rfl, rfl⟩
  have queue : ∀ m e, e ∈ (t.mbx m).queue ↔
      e ∈ (s.mbx m).queue ∨ (e ∈ es ∧ t.entry e = some (newEntry i m)) := fun m => by
    obtain ⟨q, a, hm, -, hq, -⟩ := hmb m
    rw [hm]
    exact hq
  have settings : ∀ m ∈ ts, (s.mbx m).state ≠ .free := fun m hm hf => by
    rcases (htake m hm).1 with h | h <;> rw [hf] at h <;> cases h
  have port : ∀ q, (t.port q).inFlight = (s.port q).inFlight ∧
      (t.port q).prepared = (s.port q).prepared ∧ (t.port q).session = (s.port q).session :=
    fun q => ⟨(h.ports q).inFlight, (h.ports q).prepared, (h.ports q).session⟩
  have inFlight : ∀ q, ∀ e ∈ (s.port q).inFlight, t.entry e = s.entry e := fun q e he => by
    obtain ⟨en, hen, -⟩ := hc.flight q e he
    exact hold e (hnot hen)
  refine storeLaw_iff.2 ⟨?_, fun m hm => ?_⟩
  · constructor
    case entry =>
      intro e en he
      rw [hdesc, desc_takeIn, queue]
      rcases origin e en he with ⟨hes, m, hm, rfl⟩ | ⟨hes, hs⟩
      · exact ⟨by rw [if_pos (by rfl)]; rfl, .inr ⟨hes, he⟩⟩
      · rw [if_neg (hlive hs)]
        exact ⟨(hc.entry e en hs).1, .inl (hc.entry e en hs).2⟩
    case settings =>
      intro m hm
      obtain ⟨hs, -, hd, ha, hr, hw⟩ := set m
      rw [hd, ha, hr, hw]
      exact hc.settings m (hs ▸ hm)
    case attempts =>
      intro e en he
      rw [(set _).2.2.2.2.1]
      rcases origin e en he with ⟨-, m, hm, rfl⟩ | ⟨-, hs⟩
      · obtain ⟨-, -, -, -, hr, -⟩ := hc.settings m (settings m hm)
        exact hr
      · exact hc.attempts e en hs
    case queue =>
      intro m e he
      rcases (queue m e).1 he with he | ⟨-, he⟩
      · obtain ⟨en, hen, hm⟩ := hc.queue m e he
        exact ⟨en, hkeep hen, hm⟩
      · exact ⟨_, he, rfl⟩
    case bounded =>
      intro m
      obtain ⟨q, a, hm, hout, -, hnod, hlen, -⟩ := hmb m
      obtain ⟨-, hdep, hfree⟩ := hc.bounded m
      rw [hm]
      refine ⟨hnod, ?_, fun hf => ?_⟩
      · show q.length ≤ (s.mbx m).depth
        by_cases hts : m ∈ ts
        · have hfull : (s.mbx m).queue.length ≠ (s.mbx m).depth :=
            of_decide_eq_false (htake m hts).2
          exact hlen.trans (lt_of_le_of_ne hdep hfull)
        · rw [hout hts]
          exact hdep
      · show q = []
        rw [hout fun hts => settings m hts hf]
        exact hfree hf
    case sorted =>
      intro m
      obtain ⟨q, a, hm, -, -, -, -, hp⟩ := hmb m
      rw [hm]
      exact hp
    case references =>
      intro j d hd
      rw [hdesc, desc_takeIn] at hd
      split at hd
      · next hj =>
        cases hd
        subst hj
        have : t.entriesOf j = es.length := t.entriesOf_eq h.one.2 fun e => by
          constructor
          · intro hes
            obtain ⟨m, -, -, hnew⟩ := h.entry_new hes
            rw [hnew]
            rfl
          · intro hd
            obtain ⟨en, hen, hd⟩ := Option.map_eq_some_iff.1 hd
            rcases origin e en hen with ⟨hes, -⟩ | ⟨-, hs⟩
            · exact hes
            · exact absurd hd (hlive hs)
        rw [this, h.one.1]
        exact ⟨rfl, List.length_pos_iff.2 hne⟩
      · next hj =>
        obtain ⟨href, hpos⟩ := hc.references j d hd
        refine ⟨href.trans ?_, hpos⟩
        rw [s.entriesOf_filter, t.entriesOf_filter]
        refine congrArg List.length (List.filter_congr fun e _ => ?_)
        by_cases hes : e ∈ es
        · obtain ⟨m, -, hnone, hnew⟩ := h.entry_new hes
          have hnone : s.entry e = none := hnone
          rw [hnone, hnew]
          exact (decide_eq_false fun hx => hj (Option.some.inj hx).symm).symm
        · rw [hold e hes]
    case tally =>
      intro j d hd
      rw [hdesc, desc_takeIn] at hd
      split at hd
      · cases hd
        exact Nat.zero_add _
      · exact hc.tally j d hd
    case distinct =>
      intro e g x y he hg hd hm
      rcases origin e x he with ⟨hes, m, -, rfl⟩ | ⟨-, hs⟩ <;>
        rcases origin g y hg with ⟨hgs, m', -, rfl⟩ | ⟨-, hs'⟩
      · have hm : m = m' := hm
        subst hm
        exact h.entry_unique hn hes hgs he hg
      · exact absurd hd.symm (hlive hs')
      · exact absurd hd (hlive hs)
      · exact hc.distinct e g x y hs hs' hd hm
    case flight =>
      intro q e he
      rw [(port q).1] at he
      obtain ⟨en, hen, hq, ho⟩ := hc.flight q e he
      exact ⟨en, hkeep hen, hq, (set _).2.1.trans ho⟩
    case offered =>
      intro e en he hq
      rw [(set _).2.1, (port _).1]
      rcases origin e en he with ⟨-, m, -, rfl⟩ | ⟨-, hs⟩
      · cases hq
      · exact hc.offered e en hs hq
    case once => intro q; rw [(port q).1]; exact hc.once q
    case prepared =>
      intro q pr hpr
      rw [(port q).1]
      exact hc.prepared q pr ((port q).2.1 ▸ hpr)
    case phase =>
      intro q e en o he hen ho
      rw [(port q).1] at he
      rw [(port q).2.1]
      exact hc.phase q e en o he (inFlight q e he ▸ hen) ho
    case ids =>
      intro q
      rw [(port q).1, List.map_congr_left fun e he => State.offerIdOf_congr (inFlight q e he)]
      exact hc.ids q
    case dormant =>
      intro m hm e he
      rcases (queue m e).1 he with he | ⟨-, he⟩
      · obtain ⟨en, hen, -⟩ := hc.queue m e he
        rw [State.isQueued_congr (hold e (hnot hen))]
        exact hc.dormant m ((set m).1 ▸ hm) e he
      · rw [State.isQueued_some he]
        rfl
    case owner =>
      intro m hm
      rw [(set m).1] at hm
      rw [(set m).2.1, (port _).2.2]
      exact hc.owner m hm
  · obtain ⟨q, a, hm', hout, -⟩ := hmb m
    have hs : (s.mbx m).state = .closing := (set m).1 ▸ hm
    have hts : m ∉ ts := fun hts => by
      rcases (htake m hts).1 with h | h <;> rw [hs] at h <;> cases h
    refine State.closingAt_congr (hl.closing m) (set m).1 ?_ (fun e he => ?_) hm
    · rw [hm']
      exact hout hts
    · obtain ⟨en, hen, -⟩ := hc.queue m e he
      exact hold e (hnot hen)

end

end Sys2Proof.Machine
end

section
namespace Sys2Proof.Machine

variable {s t u : State} {p : PortId}

/-! ### Acts that leave the store as it is -/

/-- A port record changed, but not its list, its prepared offer or its session. -/
def Port.sameOffers (x y : Port) : Prop :=
  y.inFlight = x.inFlight ∧ y.prepared = x.prepared ∧ y.session = x.session

theorem StoreLaw.updPort (h : StoreLaw s) {f : Port → Port}
    (hf : (s.port p).sameOffers (f (s.port p))) : StoreLaw (s.updPort p f) :=
  (SameStore.updPort s p ⟨hf.1, hf.2.1, fun hu => hf.2.2.trans hu⟩).law h

/-- The registers, the pool and the groups changed alone. -/
theorem StoreLaw.of_tables (h : StoreLaw s) (he : t.entries = s.entries)
    (hd : t.descriptors = s.descriptors) (hm : t.mailboxes = s.mailboxes) (hp : t.ports = s.ports) :
    StoreLaw t :=
  (SameStore.of_ports he hd hm fun p => by
    have : t.port p = s.port p := congrArg (·.get p) hp
    rw [this]
    exact ⟨rfl, rfl, id⟩).law h

theorem SameStore.evalPool (s : State) : SameStore s s.evalPool :=
  .of_told (by simp) (by simp) (by simp) fun p => ⟨_, s.told_evalPool p⟩

theorem sameOffers_raise (x : Port) (e : Event) : x.sameOffers (x.raise e) := by
  rw [Port.raise_eq]
  exact ⟨rfl, rfl, rfl⟩

theorem sameOffers_beginFrame (x : Port) (hello : HelloFrame) :
    x.sameOffers (x.beginFrame hello) := by
  rcases x.beginFrame_cases hello with h | ⟨_, _, _, _, _, h, -⟩ <;> rw [h] <;>
    exact ⟨rfl, rfl, rfl⟩

theorem StoreLaw.tellOwner (h : StoreLaw s) (p : PortId) (m : MailboxId) :
    StoreLaw (s.tellOwner p m) := by
  unfold State.tellOwner
  split
  · exact h
  · exact h.updPort (sameOffers_raise _ _)

/-- A raise of MAILBOX_CLOSED leaves the mailboxes. -/
theorem mbx_tellOwner (s : State) (p : PortId) (m n : MailboxId) :
    (s.tellOwner p m).mbx n = s.mbx n := by
  unfold State.tellOwner
  split <;> rfl

theorem StoreLaw.arbitrate (h : StoreLaw s) (p : PortId) : StoreLaw (s.arbitrate p) := by
  unfold State.arbitrate
  split
  · exact h.updPort (sameOffers_beginFrame _ _)
  · exact h

theorem StoreLaw.endFrame (h : StoreLaw s) (p : PortId) (f : Frame) : StoreLaw (s.endFrame p f) := by
  cases f with
  | offer o =>
    unfold State.endFrame
    dsimp only
    split
    · next hpr => exact h.offerSent hpr
    · exact h.updPort ⟨rfl, rfl, rfl⟩
  | reply | hello | report | event => exact h.updPort ⟨rfl, rfl, rfl⟩

theorem StoreLaw.lastByteSent (h : StoreLaw s) (p : PortId) : StoreLaw (s.lastByteSent p) := by
  unfold State.lastByteSent
  split
  · exact (h.endFrame p _).arbitrate p
  · exact h
  · exact h

theorem StoreLaw.stoppedIdleEnded (h : StoreLaw s) (p : PortId) : StoreLaw (s.stoppedIdleEnded p) := by
  unfold State.stoppedIdleEnded
  split
  · exact (h.updPort (f := (·.freeTransmitter)) ⟨rfl, rfl, rfl⟩).arbitrate p
  · exact h

theorem StoreLaw.discardFrame (h : StoreLaw s) (p : PortId) : StoreLaw (s.discardFrame p) := by
  unfold State.discardFrame
  split
  · exact h
  · exact h.updPort ⟨Port.raise_inFlight _ _, Port.raise_prepared _ _, Port.raise_session _ _⟩

/-! ### The empty store -/

/-- With no message, no entry, no offer and every mailbox FREE the store law holds. -/
theorem StoreLaw.of_empty (he : ∀ e, s.entry e = none) (hd : ∀ d, s.desc d = none)
    (hm : ∀ m, s.mbx m = Mailbox.blank)
    (hp : ∀ p, (s.port p).inFlight = [] ∧ (s.port p).prepared = none) : StoreLaw s where
  entry e en h := by rw [he] at h; cases h
  settings m h := by rw [hm] at h; exact absurd rfl h
  attempts e en h := by rw [he] at h; cases h
  queue m e h := by rw [hm] at h; cases h
  bounded m := by rw [hm]; exact ⟨List.nodup_nil, le_rfl, fun _ => rfl⟩
  sorted m := by rw [hm]; exact .nil
  references i d h := by rw [hd] at h; cases h
  tally i d h := by rw [hd] at h; cases h
  distinct e f x y h := by rw [he] at h; cases h
  flight p e h := by rw [(hp p).1] at h; cases h
  offered e en h := by rw [he] at h; cases h
  once p := by rw [(hp p).1]; exact List.nodup_nil
  prepared p pr h := by rw [(hp p).2] at h; cases h
  phase p e en o h := by rw [(hp p).1] at h; cases h
  ids p := by rw [(hp p).1]; exact List.nodup_nil
  closing m h := by rw [hm] at h; cases h
  dormant m h := by rw [hm] at h; cases h
  owner m h := by rw [hm] at h; rcases h with h | h <;> cases h

/-- CLEAR empties the store (R182). -/
theorem storeLaw_clearAll (s : State) : StoreLaw s.clearAll := by
  obtain ⟨⟨ports, heq⟩, -⟩ := s.clearAll_spec
  refine .of_empty (fun e => ?_) (fun d => ?_) (fun m => ?_) fun p => ?_
  · rw [heq]
    exact (State.entry_evalPool _ e).trans (Table.get_replicate _ e)
  · rw [heq]
    exact (State.desc_evalPool _ d).trans (Table.get_replicate _ d)
  · rw [heq]
    exact (State.mbx_evalPool _ m).trans (Table.get_replicate _ m)
  · rw [State.port_clearAll]
    have ht := s.emptied.told_evalPool p
    rw [State.port_emptied] at ht
    exact ⟨ht.inFlight, ht.prepared⟩

/-! ### Commands -/

/-- A mailbox opened (R27, R28). -/
theorem StoreLaw.opened (h : StoreLaw s) {m : MailboxId} (hf : (s.mbx m).state = .free)
    (hup : (s.port p).session = .up) {depth retry mark : Byte} {ack : Half}
    (hok : openSettingsOk depth ack retry mark = true) :
    StoreLaw (s.updMbx m fun _ => Mailbox.opened p depth ack retry mark) := by
  obtain ⟨h1, h2, h3, h4, h5, h6, -, h7⟩ := of_decide_eq_true hok
  exact (h.core.replaceEmpty ((h.bounded m).2.2 hf) rfl
    ⟨fun _ => ⟨h1, h2, h3, h4, h5, h6, h7⟩, fun _ => hup⟩).law_updMbx nofun fun n _ => h.closing n

/-- A DORMANT mailbox reclaimed (R42). -/
theorem StoreLaw.reclaim (h : StoreLaw s) {m : MailboxId} (hd : (s.mbx m).state = .dormant)
    (hup : (s.port p).session = .up) :
    StoreLaw (s.updMbx m fun x => { x with state := .opened, dormancyDeadline := none, owner := p }) :=
  (h.core.changeState rfl rfl rfl (.inr (h.dormant m hd)) (fun h => by cases h)
    (fun h => by cases h)
    ⟨fun _ => h.settings m (by rw [hd]; decide), fun _ => hup⟩).law_updMbx nofun
    fun n _ => h.closing n

/-- An accepted SEND (R11). -/
theorem StoreLaw.allocate (h : StoreLaw s) (hg : s.groupsLawful) {f : SendFields}
    {ts : List MailboxId} {k : Nat} (hok : s.admission p f = .ok (ts, k)) :
    StoreLaw (s.allocate p f ts k) := by
  obtain ⟨-, htargets, hdesc, hents, -⟩ := admission_found hok
  obtain ⟨hne, hn, htake⟩ := targets_take hg htargets
  obtain ⟨i, hi⟩ := exists_free_desc hdesc
  have hnone := first_free_desc hi
  obtain ⟨es, hes⟩ := enqueued_foldl (s := s.takeIn p f ts.length k i) i hn hents
    fun m _ => h.core.queueFits_takeIn hnone p f _ k m
  rw [State.allocate_some hi]
  exact (SameStore.evalPool _).law (h.enqueued hnone hes hne hn htake)

/-- An effect of a command keeps the store law. -/
theorem Effect.storeLaw (h : Effect p s t) (hs : Serves s p) (hg : s.groupsLawful) (hl : StoreLaw s) :
    StoreLaw t := by
  cases h with
  | detach => exact hl.endSession p .detach
  | opened m _ _ _ _ hfree hok => exact hl.opened hfree hs.up hok
  | close seq m hopen =>
    exact (hl.tellOwner p m).closeOpen (by rw [mbx_tellOwner]; exact hopen) p seq
  | freed m hdor => exact (hl.tellOwner p m).freeDormant (by rw [mbx_tellOwner]; exact hdor)
  | held m => exact (SameStore.updMbx s m rfl).law hl
  | reclaim m hdor => exact hl.reclaim hdor hs.up
  | send f ts k _ _ hok => exact hl.allocate hg hok
  | cancel i d => exact hl.cancelAt i _
  | setEvents e =>
    exact hl.updPort (by rw [Port.evalNotice_eq]; exact ⟨rfl, rfl, rfl⟩)
  | readEvents => exact hl.updPort ⟨rfl, rfl, rfl⟩
  | configure mark limit =>
    exact (SameStore.evalPool _).law
      (hl.of_tables (t := { s with lowMark := mark, dormancyLimit := limit }) rfl rfl rfl rfl)
  | group g f => exact hl.of_tables rfl rfl rfl rfl
  | clear => exact storeLaw_clearAll s
  | retest => exact hl.of_tables rfl rfl rfl rfl

/-- An answer keeps the store law (R156). -/
theorem Comes.storeLaw {kind seq : Byte} (h : Comes p kind seq s t) (hl : Lawful s) : StoreLaw t := by
  obtain ⟨r, hr, rfl⟩ := h
  refine StoreLaw.updPort (f := (·.post ⟨kind, seq, r.2⟩)) ?_ ⟨rfl, rfl, rfl⟩
  cases hr with
  | refused => exact hl.store
  | read => exact hl.store
  | attached epoch w e =>
    exact (SameStore.updPort s p (f := (·.attach epoch w e)) ⟨rfl, rfl, fun _ => rfl⟩).law hl.store
  | effect _ hs he => exact he.storeLaw hs hl.groups hl.store

/-! ### Breaks -/

/-- The link of a port that prepares no offer and is not UP broken (R123, R124). -/
theorem StoreLaw.breakLink (h : StoreLaw s) (hup : (s.port p).session ≠ .up)
    (hpr : (s.port p).prepared = none) : StoreLaw (s.updPort p (·.breakLink)) :=
  (SameStore.updPort s p (f := (·.breakLink)) ⟨rfl, hpr.symm, fun hu => absurd hu hup⟩).law h

/-- A break start (R122, R123, R124). -/
theorem StoreLaw.breakStarts (h : StoreLaw s) (hp : s.portsLawful) (p : PortId) :
    StoreLaw (s.breakStarts p) := by
  have hline := h.updPort (p := p) (f := fun x => { x with lineInBreak := true }) ⟨rfl, rfl, rfl⟩
  unfold State.breakStarts
  split
  · exact h
  · cases hs : (s.port p).session with
    | down => exact hline
    | announced =>
      have hup : (s.port p).session ≠ .up := by rw [hs]; decide
      obtain ⟨-, -, -, -, -, -, hpr, -⟩ := (hp p).quiet hup
      refine hline.breakLink ?_ ?_ <;> rw [State.port_updPort_self]
      · exact hup
      · exact hpr
    | up =>
      obtain ⟨-, -, x, -, hx⟩ := steady_endSession
        (s.updPort p fun x => { x with lineInBreak := true }) p .lineBreak
      refine (hline.endSession p .lineBreak).breakLink ?_ ?_ <;> rw [hx]
      · exact nofun
      · rfl

/-- A break end (R122, R125). -/
theorem StoreLaw.breakEnds (h : StoreLaw s) (hp : s.portsLawful) (p : PortId) :
    StoreLaw (s.breakEnds p) := by
  unfold State.breakEnds
  split
  · next hb =>
    have hd := (hp p).broken hb
    refine (SameStore.updPort s p ?_).law h
    dsimp only
    split
    · exact ⟨rfl, rfl, id⟩
    · exact ⟨rfl, rfl, fun hu => by rw [hd] at hu; cases hu⟩
  · exact h

end Sys2Proof.Machine
end

section
namespace Sys2Proof.Machine

variable {s t u : State} {p : PortId}

/-! ### The group law -/

/-- A group changed by a group command keeps the group law (R106 to R111). -/
theorem groupsLawful_updGrp (h : s.groupsLawful) {g : GroupId} {f : Group → Group}
    (hs : GroupStep s (s.grp g) (f (s.grp g))) : (s.updGrp g f).groupsLawful := fun k => by
  have hg : (s.updGrp g f).grp k = if k = g then f (s.grp k) else s.grp k := Table.get_modify _ _ _ _
  rw [hg]
  split
  · next hk =>
    subst hk
    obtain ⟨hn, hl, -, hm⟩ := h k
    rcases hs with ⟨hsub, hnone⟩ | ⟨m, hy, hpol, hnot, hlen, hfree, hcl⟩
    · exact ⟨hn.sublist hsub, hsub.length_le.trans hl, hnone, fun m hmem => hm m (hsub.subset hmem)⟩
    · rw [hy]
      refine ⟨hn.append (List.nodup_singleton m) (List.disjoint_singleton.2 hnot), ?_,
        fun hp => absurd hp hpol, fun n hmem => ?_⟩
      · rw [List.length_append]
        exact lt_of_le_of_ne hl hlen
      · rcases List.mem_append.1 hmem with hmem | hmem
        · exact hm n hmem
        · rw [List.mem_singleton.1 hmem]
          show (s.mbx m).state = .opened ∨ (s.mbx m).state = .dormant
          cases hst : (s.mbx m).state with
          | free => exact absurd hst hfree
          | closing => exact absurd hst hcl
          | opened => exact .inl rfl
          | dormant => exact .inr rfl
  · exact h k

/-- The group law speaks of groups and of the states of mailboxes. -/
theorem groupsLawful_congr (h : s.groupsLawful) (hg : t.groups = s.groups)
    (hm : t.mailboxes = s.mailboxes) : t.groupsLawful := fun g => by
  have h1 : t.grp g = s.grp g := congrArg (·.get g) hg
  have h2 : ∀ m, t.mbx m = s.mbx m := fun m => congrArg (·.get m) hm
  rw [h1]
  simp only [h2]
  exact h g

theorem groupsLawful_updPort (h : s.groupsLawful) (p : PortId) (f : Port → Port) :
    (s.updPort p f).groupsLawful := groupsLawful_congr h rfl rfl

/-- Empty member lists are lawful. -/
theorem groupsLawful_of_empty (h : ∀ g, (s.grp g).members = []) : s.groupsLawful := fun g => by
  rw [h]
  exact ⟨List.nodup_nil, Nat.zero_le _, fun _ => rfl, fun m hm => by cases hm⟩

/-- An effect of a command keeps the group law. -/
theorem Effect.groupsLawful (h : Effect p s t) (hs : Serves s p) (hl : s.groupsLawful) :
    t.groupsLawful := by
  rcases h.steady hs with h | ht | ⟨m, x, hfree, hopen, ht⟩ | ⟨g, f, hg, ht⟩ | ⟨-, ht⟩
  · exact h.tables.groupsLawful hl
  · rw [ht]
    exact (steady_endSession s p .detach).1.groupsLawful hl
  · rw [ht]
    refine groupsLawful_of hl (fun g => ⟨rfl, List.Sublist.refl _⟩) fun n hn => .inl ?_
    rw [State.mbx_updMbx]
    split
    · exact .inl hopen
    · exact hn
  · rw [ht]
    exact groupsLawful_updGrp hl hg
  · rw [ht]
    exact groupsLawful_congr hl rfl rfl

/-- An answer keeps the group law. -/
theorem Comes.groupsLawful {kind seq : Byte} (h : Comes p kind seq s t) (hl : s.groupsLawful) :
    t.groupsLawful := by
  obtain ⟨r, hr, rfl⟩ := h
  have post : ∀ {v : State}, v.groupsLawful →
      (v.updPort p (·.post ⟨kind, seq, r.2⟩)).groupsLawful := fun hv => groupsLawful_congr hv rfl rfl
  cases hr with
  | refused => exact post hl
  | read => exact post hl
  | attached => exact post (groupsLawful_congr hl rfl rfl)
  | effect _ hs he => exact post (he.groupsLawful hs hl)

/-- A break start keeps the group law (R123). -/
theorem groupsLawful_breakStarts (h : s.groupsLawful) (p : PortId) : (s.breakStarts p).groupsLawful := by
  have hline := groupsLawful_updPort h p fun x => { x with lineInBreak := true }
  unfold State.breakStarts
  split
  · exact h
  · cases (s.port p).session with
    | down => exact hline
    | announced => exact groupsLawful_updPort hline p _
    | up => exact groupsLawful_updPort ((steady_endSession _ p .lineBreak).1.groupsLawful hline) p _

theorem groupsLawful_breakEnds (h : s.groupsLawful) (p : PortId) : (s.breakEnds p).groupsLawful := by
  unfold State.breakEnds
  split
  · exact groupsLawful_congr h rfl rfl
  · exact h

/-! ### Power-on and reset -/

/-- The power-on values are lawful, whatever the straps and RESETn (R119, R174). -/
theorem lawful_powerOnValues (psel : BitVec 3) (rate : BitVec 2) :
    Lawful (State.powerOnValues psel rate) := by
  have hport : ∀ p, (State.powerOnValues psel rate).port p =
      Port.powerOn (decide (psel.toNat = p.val)) := fun p => Table.get_ofFn _ p
  have hmbx : ∀ m, (State.powerOnValues psel rate).mbx m = Mailbox.blank := fun m =>
    Table.get_replicate _ m
  have hdesc : ∀ d, (State.powerOnValues psel rate).desc d = none := fun d =>
    Table.get_replicate _ d
  refine ⟨fun p => ?_, ⟨fun _ => hdesc, nofun, fun _ => ⟨rfl, fun m => ?_, fun p => ?_⟩, nofun⟩,
    groupsLawful_of_empty fun g => ?_, .of_empty (fun e => Table.get_replicate _ e) hdesc hmbx
    fun p => ?_⟩
  · rw [hport]
    exact portLaw_powerOn _
  · rw [hmbx]
    rfl
  · rw [hport]
    rfl
  · exact congrArg Group.members (Table.get_replicate Group.undefined g)
  · rw [hport]
    exact ⟨rfl, rfl⟩

/-- The laws speak of neither the commands that wait nor RESETn. -/
theorem Lawful.withPending (h : Lawful s) (rest : List Instr) (r : Bool) :
    Lawful { s with pending := rest, inReset := r } :=
  ⟨h.ports, ⟨h.mode.store, h.mode.fault, h.mode.startUp, h.mode.heard⟩,
    groupsLawful_congr h.groups rfl rfl, h.store.of_tables rfl rfl rfl rfl⟩

/-! ### Test ends (R177) -/

/-- Every port's record changed, but not its list, its prepared offer or an UP session. -/
theorem SameStore.allPorts (s : State) {f : Port → Port}
    (h : ∀ p, (f (s.port p)).inFlight = (s.port p).inFlight ∧
      (f (s.port p)).prepared = (s.port p).prepared ∧
      ((s.port p).session = .up → (f (s.port p)).session = .up)) : SameStore s (s.allPorts f) :=
  .of_ports rfl rfl rfl fun p => by
    rw [State.port_allPorts]
    exact h p

/-- A session that a test fault ends leaves its port's record lawful (R139). -/
theorem PortLaw.faulted {x : Port} (h : PortLaw x) (hup : x.session = .up) : PortLaw x.faulted :=
  portLaw_iff.2 ⟨(portLaw_iff.1 h).1.leaveUp (by decide), fun hb => by
    have := h.broken hb
    rw [hup] at this
    cases this⟩

/-- A port that is not UP is announced afresh unless it is DOWN (R180). -/
theorem PortLaw.afterFault {x : Port} (h : PortLaw x) (hup : x.session ≠ .up) :
    PortLaw x.afterFault := by
  obtain ⟨hc, hb⟩ := portLaw_iff.1 h
  refine portLaw_iff.2 ⟨hc.afterFault hup, ?_⟩
  unfold Port.afterFault
  split
  · exact hb
  · next hd => exact fun hl => absurd (hb hl) hd

/-- What the teardown leaves of a port that is not UP: DOWN if it was, and ANNOUNCED otherwise. -/
theorem Port.afterFault_fields (x : Port) : x.afterFault.inFlight = x.inFlight ∧
    x.afterFault.prepared = x.prepared ∧ x.afterFault.lineInBreak = x.lineInBreak ∧
    x.afterFault.session = if x.session = .down then .down else .announced := by
  unfold Port.afterFault
  split
  · next hd => exact ⟨rfl, rfl, rfl, hd⟩
  · exact ⟨rfl, rfl, rfl, rfl⟩

/-- The tables that a test fault leaves. -/
theorem OnlyBoxesPortsGroups.tables (h : OnlyBoxesPortsGroups s t) : t.entries = s.entries ∧
    t.descriptors = s.descriptors ∧ t.startUp = s.startUp := by
  rw [h]
  exact ⟨rfl, rfl, rfl⟩

/-- A test fault tears every session, mailbox and member list down (R139, R180, R181). -/
theorem lawful_faultTeardown (hp : s.portsLawful) (hst : StoreLaw s) (hd : ∀ d, s.desc d = none)
    (hs : s.startUp = false)
    (hh : ∀ p, (s.port p).session = .down → (s.port p).lineInBreak = true) :
    Lawful s.faultTeardown := by
  obtain ⟨honly, hblank, hgrp, hport⟩ := (tornDown_foldl (hst.idle hd)).freed
  rw [← State.faultTeardown_eq] at honly hblank hgrp hport
  generalize s.faultTeardown = t at honly hblank hgrp hport
  obtain ⟨hent, hdescs, hsu⟩ := honly.tables
  have hdesc : ∀ d, t.desc d = none := fun d => (congrArg (·.get d) hdescs).trans (hd d)
  have port : ∀ p, ∃ x, t.port p = x.afterFault ∧ PortLaw x ∧ x.session ≠ .up ∧
      (x.session = .down → x.lineInBreak = true) := fun p => by
    rw [hport]
    split
    · next hup => exact ⟨_, rfl, (hp p).faulted hup, nofun, nofun⟩
    · next hup => exact ⟨_, rfl, hp p, hup, hh p⟩
  refine ⟨fun p => ?_, ⟨fun _ => hdesc, fun _ => ⟨fun m => ?_, fun p => ?_⟩, fun h => ?_,
    fun _ p hpd => ?_⟩, groupsLawful_of_empty fun g => ?_,
    .of_empty (fun e => ?_) hdesc hblank fun p => ?_⟩
  · obtain ⟨x, hx, hl, hup, -⟩ := port p
    rw [hx]
    exact hl.afterFault hup
  · rw [hblank]
    rfl
  · obtain ⟨x, hx, -⟩ := port p
    rw [hx, x.afterFault_fields.2.2.2]
    split <;> decide
  · rw [hsu, hs] at h
    cases h
  · obtain ⟨x, hx, -, -, hline⟩ := port p
    obtain ⟨-, -, hlb, hsess⟩ := x.afterFault_fields
    rw [hx] at hpd ⊢
    rw [hlb]
    rw [hsess] at hpd
    split at hpd
    · next hdown => exact hline hdown
    · cases hpd
  · rw [hgrp]
  · refine (congrArg (·.get e) hent).trans ?_
    show s.entry e = none
    cases he : s.entry e with
    | none => rfl
    | some en =>
      have := (hst.entry e en he).1
      rw [hd] at this
      cases this
  · obtain ⟨x, hx, hl, hup, -⟩ := port p
    obtain ⟨hf, hpr, -⟩ := x.afterFault_fields
    obtain ⟨-, -, -, -, -, hq, hn, -⟩ := hl.quiet hup
    rw [hx, hf, hpr]
    exact ⟨hq, hn⟩

/-- The end of the start-up interval: every port whose line is not in break is announced (R125). -/
theorem lawful_announceAll (hp : s.portsLawful) (hg : s.groupsLawful) (hst : StoreLaw s)
    (hd : ∀ d, s.desc d = none) (hfree : ∀ m, (s.mbx m).state = .free) (hs : s.startUp = false)
    (hdown : ∀ p, (s.port p).session = .down) : Lawful s.announceAll := by
  have hup : ∀ p, (s.port p).session ≠ .up := fun p => by rw [hdown]; decide
  have hport : ∀ p, s.announceAll.port p =
      if (s.port p).lineInBreak then s.port p else (s.port p).announce := State.port_allPorts _ _
  refine ⟨fun p => ?_, ⟨fun _ => hd, fun _ => ⟨hfree, fun p => ?_⟩, fun h => ?_, fun _ p => ?_⟩,
    groupsLawful_congr hg rfl rfl, (SameStore.allPorts s fun p => ?_).law hst⟩
  · rw [hport]
    split
    · exact hp p
    · next hb => exact portLaw_iff.2 ⟨(portLaw_iff.1 (hp p)).1.announce (hup p), fun h => absurd h hb⟩
  · rw [hport]
    split
    · exact hup p
    · exact nofun
  · exact absurd (hs.symm.trans h) (by decide)
  · rw [hport]
    split
    · next hb => exact fun _ => hb
    · exact nofun
  · split
    · exact ⟨rfl, rfl, id⟩
    · exact ⟨rfl, rfl, fun h => absurd h (hup p)⟩

/-- A test end keeps every law (R177). -/
theorem lawful_testEnd (hl : Lawful s) (hm : s.mode = .testing) (failed : List BufferId) :
    Lawful ((s.endTest failed).afterTest s.startUp) := by
  have ht := tested_endTest s failed
  have hd : ∀ d, (s.endTest failed).desc d = none := fun d =>
    (congrArg (·.get d) ht.descriptors).trans (hl.mode.store (by rw [hm]; decide) d)
  have hmbx : ∀ m, (s.endTest failed).mbx m = s.mbx m := fun m => congrArg (·.get m) ht.mailboxes
  have steady : ∀ p, PortSteady (s.port p) ((s.endTest failed).port p) := fun p => by
    rcases ht.raised p with hr | hr <;> rw [hr]
    · exact .refl _
    · exact portSteady_raise _ _
  have hp : (s.endTest failed).portsLawful := fun p => (steady p).law (hl.ports p)
  have hg := groupsLawful_congr (t := s.endTest failed) hl.groups ht.groups ht.mailboxes
  have hst : StoreLaw (s.endTest failed) :=
    (SameStore.of_told ht.entries ht.descriptors ht.mailboxes fun p => ⟨_, ht.ports p⟩).law hl.store
  unfold State.afterTest
  split
  · next hsu =>
    obtain ⟨-, hfree, hdown⟩ := hl.mode.startUp hsu
    exact lawful_announceAll hp hg hst hd (fun m => by rw [hmbx]; exact hfree m) rfl
      fun p => (steady p).session.trans (hdown p)
  · next hsu =>
    have hh : ∀ p, ((s.endTest failed).port p).session = .down →
        ((s.endTest failed).port p).lineInBreak = true := fun p => by
      rw [(steady p).session, (steady p).line]
      exact hl.mode.heard (Bool.eq_false_iff.2 hsu) p
    split
    · next hf => exact lawful_faultTeardown hp hst hd rfl hh
    · next hf =>
      have hmode : ModeLaw (s.endTest failed) :=
        ⟨fun _ => hd, fun h => absurd h hf, nofun, fun _ => hh⟩
      have hall := steady_allPorts (s.endTest failed)
        (f := (·.complete .retest (.retested (s.endTest failed).goodCount)))
        fun p => portSteady_complete _ _ _
      obtain ⟨hp', hm'⟩ := hall.portsAndMode ⟨hp, hmode⟩
      refine ⟨hp', hm', groupsLawful_congr hg rfl rfl,
        (SameStore.allPorts _ fun p => ?_).law hst⟩
      rw [Port.complete_eq]
      exact ⟨rfl, rfl, id⟩

/-! ### Every step -/

/-- A steady act keeps the laws of ports, mode and groups; with the store's law they are all. -/
theorem Steady.lawful (h : Steady s t) (hl : Lawful s) (hst : StoreLaw t) : Lawful t :=
  have hpm := h.portsAndMode ⟨hl.ports, hl.mode⟩
  ⟨hpm.1, hpm.2, h.tables.groupsLawful hl.groups, hst⟩

/-- An outcome keeps every law. -/
theorem Outcome.lawful (h : Outcome s t) (hl : Lawful s) : Lawful t := by
  induction h with
  | same => exact hl
  | powerOn s psel rate => exact (lawful_powerOnValues psel rate).withPending s.pending false
  | enterReset s => exact (lawful_powerOnValues 7#3 0#2).withPending s.pending true
  | reach s t n _ ih =>
    exact ih (Steady.lawful (s := s) (t := s.reach n)
      ⟨.of_same rfl rfl rfl (fun _ => rfl) rfl, fun _ => .refl _⟩ hl ((SameStore.reach s n).law hl.store))
  | receive s t p r hp _ ih =>
    exact ih ((steady_updPort s (portSteady_receiver hp r)).lawful hl
      (hl.store.updPort ⟨rfl, rfl, rfl⟩))
  | drop s p =>
    exact (steady_updPort s (portSteady_dropCommand _)).lawful hl
      (hl.store.updPort ⟨Port.raise_inFlight _ _, Port.raise_prepared _ _, Port.raise_session _ _⟩)
  | answer s t p kind seq hh h =>
    obtain ⟨hp, hm⟩ := h.portsAndMode hh ⟨hl.ports, hl.mode⟩
    exact ⟨hp, hm, h.groupsLawful hl.groups, h.storeLaw hl⟩
  | stray s p =>
    exact (steady_updPort s (portSteady_stray _)).lawful hl (hl.store.updPort ⟨rfl, rfl, rfl⟩)
  | resolve s p e o he =>
    obtain ⟨en, hen, -⟩ := hl.store.flight p e he
    refine (steady_thenClose s e (steady_resolve s e o)).lawful hl ?_
    rw [thenClose_some hen]
    exact hl.store.resolve_close hen o
  | unaccepted s p e he =>
    obtain ⟨en, hen, hq, -⟩ := hl.store.flight p e he
    refine (steady_thenClose s e (steady_nonAccepting s e true)).lawful hl ?_
    rw [thenClose_some hen]
    exact hl.store.unaccepted_close hen hq
  | select s p => exact (steady_select s p).lawful hl (hl.store.select hl.ports p)
  | expire s i d =>
    exact ((steady_resolveAll s _ .expired).trans (steady_updDesc _ i _)).lawful hl
      ((SameStore.updDesc _ i (f := fun x => { x with deadline := none, expired := true })
        fun _ => rfl).law (hl.store.resolveQueued i .expired))
  | dormancy s m hm => exact (steady_freeDormant s m).lawful hl (hl.store.freeDormant hm)
  | breakStart s p =>
    obtain ⟨hp, hm⟩ := portsAndMode_breakStarts ⟨hl.ports, hl.mode⟩ p
    exact ⟨hp, hm, groupsLawful_breakStarts hl.groups p, hl.store.breakStarts hl.ports p⟩
  | breakEnd s p =>
    obtain ⟨hp, hm⟩ := portsAndMode_breakEnds ⟨hl.ports, hl.mode⟩ p
    exact ⟨hp, hm, groupsLawful_breakEnds hl.groups p, hl.store.breakEnds hl.ports p⟩
  | discard s p => exact (steady_discardFrame s p).lawful hl (hl.store.discardFrame p)
  | arbitrate s p => exact (steady_arbitrate s p).lawful hl (hl.store.arbitrate p)
  | lastByte s p => exact (steady_lastByteSent s p).lawful hl (hl.store.lastByteSent p)
  | idleEnd s p => exact (steady_stoppedIdleEnded s p).lawful hl (hl.store.stoppedIdleEnded p)
  | testEnd s failed hm => exact lawful_testEnd hl hm failed

/-- Settles O59: a step is an outcome of the command at the front, and every outcome keeps the laws. -/
theorem stepKeepsTheExchangeLawful : Obligations.StepKeepsTheExchangeLawful := fun s _ hl hx => by
  obtain ⟨rest, h⟩ := outcome_of_step hx
  exact h.lawful (hl.withPending rest s.inReset)

end Sys2Proof.Machine
end

section
/-! SUPPORT. A session end by DETACH or by a break (R122 to R124, R131, R132). -/

namespace Sys2Proof.Machine

variable {s : State} {p : PortId}

/-- Two updates that agree on a port's record are one update. -/
theorem State.updPort_congr {f g : Port → Port} (h : f (s.port p) = g (s.port p)) :
    s.updPort p f = s.updPort p g := by
  show { s with ports := s.ports.set p (f (s.port p)) } = { s with ports := s.ports.set p (g (s.port p)) }
  rw [h]

/-- A stopped transmitter has nothing left to stop (R160). -/
@[simp] theorem Transmitter.stop_stop (t : Transmitter) : t.stop.stop = t.stop := by
  cases t <;> rfl

/-- A break has nothing left to discard at the link of the port whose session it ended: HELLO pending and the
receiver alone are put back (R123, R124). -/
theorem Port.breakLink_leaveUp (x : Port) :
    ((x.discardLink .lineBreak).leaveUp .lineBreak).breakLink =
      { (x.discardLink .lineBreak).leaveUp .lineBreak with
        helloPending := false, receiver := .hunt } :=
  congrArg (fun tx : Transmitter =>
    { (x.discardLink .lineBreak).leaveUp .lineBreak with
      helloPending := false, receiver := .hunt, tx := tx }) (Transmitter.stop_stop x.tx)

/-- A break start on an UP port whose line is not in break (R123, R132). -/
theorem State.breakStarts_up (hup : (s.port p).session = .up)
    (hb : (s.port p).lineInBreak = false) {u : State}
    (hu : u = s.updPort p fun x => { x with lineInBreak := true }) :
    s.breakStarts p = (u.endSession p .lineBreak).updPort p fun x =>
      { x with helloPending := false, receiver := .hunt } := by
  obtain ⟨-, -, x, -, hx⟩ := steady_endSession u p .lineBreak
  have hlink : s.breakStarts p = (u.endSession p .lineBreak).updPort p (·.breakLink) := by
    simp only [State.breakStarts, hb, hup, hu, Bool.false_eq_true, if_false]
  rw [hlink]
  refine State.updPort_congr ?_
  rw [hx]
  exact Port.breakLink_leaveUp x

/-- Settles O16: both acts run `State.endSession`, which `sessionEnded_endSession` reads table by table; DETACH
then posts its reply, and a break finds nothing more to discard. -/
theorem sessionEndIsTakenWhole : Obligations.SessionEndIsTakenWhole := by
  intro s p seq hl
  refine ⟨fun hs => ⟨s.endSession p .detach, sessionEnded_endSession hl.store.core p .detach, ?_⟩,
    fun hr hup hb => ?_⟩
  · rw [exec_detach, event_awake _ hs.awake]
    exact congrArg _ (takeCommand_answer hs rfl)
  · have hline : StoreCore (s.updPort p fun x => { x with lineInBreak := true }) :=
      (SameStore.updPort s p ⟨rfl, rfl, id⟩).core hl.store.core
    refine ⟨_, sessionEnded_endSession hline p .lineBreak, ?_⟩
    rw [exec_breakStart, event_awake _ hr]
    exact congrArg _ (State.breakStarts_up hup hb rfl)

end Sys2Proof.Machine
end

section
/-! SUPPORT. What a command of an UP port comes to when its own checks refuse it or it is done (R121, R152). -/

namespace Sys2Proof.Machine

variable {s t : State} {p : PortId} {kind seq : Byte} {own : State → State × ReplyState} {c : Instr}

/-- A command that its own checks refuse earns its status and changes nothing else. -/
theorem exec_refused {st : Status} (hs : Serves s p)
    (hc : exec c s = event (fun s => s.takeCommand p kind seq own) s) (ho : own s = refuse s st) :
    exec c s = .next (s.replied p kind seq st .none) := by
  rw [hc, event_awake _ hs.awake]
  exact congrArg _ (takeCommand_refuse hs ho)

/-- A command that is done is answered OK over its effect. -/
theorem exec_answered {res : Results} (hs : Serves s p)
    (hc : exec c s = event (fun s => s.takeCommand p kind seq own) s) (ho : own s = answer t res) :
    exec c s = .next (t.replied p kind seq .ok res) := by
  rw [hc, event_awake _ hs.awake]
  exact congrArg _ (takeCommand_answer hs ho)

/-! ### The fields that name a mailbox or a port (R21, R138) -/

theorem mailboxId_none {id : Byte} (h : 32 ≤ id.toNat) : mailboxId id = none :=
  dif_neg (Nat.not_lt.2 h)

theorem portId_eq {b : Byte} {q : PortId} (h : b.toNat = q.val) : portId b = some q := by
  have hlt : b.toNat < 6 := h ▸ q.isLt
  rw [portId, dif_pos hlt]
  exact congrArg some (Fin.ext h)

theorem portId_none {b : Byte} (h : 6 ≤ b.toNat) : portId b = none :=
  dif_neg (Nat.not_lt.2 h)

end Sys2Proof.Machine
end

section
/-! SUPPORT. The three queries (R40, R138, R187). -/

namespace Sys2Proof.Machine

variable (s : State)

/-- The pool's results, its counts read record by record (R187). -/
theorem State.poolView_eq : s.poolView =
    ⟨s.mode, s.goodCount,
      ((List.finRange 128).filter fun d => (s.desc d).isNone).length,
      ((List.finRange 256).filter fun e => (s.entry e).isNone).length,
      ((List.finRange 384).filter fun b => decide (s.buffers.get b = .free)).length,
      ((List.finRange 384).filter fun b => decide (s.buffers.get b = .retired)).length,
      s.lowMark, s.poolArmed, s.dormancyLimit⟩ := by
  rw [State.poolView, State.freeDescriptors, State.freeEntries, State.freeBuffers,
    State.retiredBuffers, Table.count_eq_length_indices, Table.count_eq_length_indices,
    Table.count_eq_length_indices, Table.count_eq_length_indices]
  rfl

/-- A port's results, its mailboxes counted one by one (R138). -/
theorem State.portView_eq (q : PortId) : s.portView q =
    ⟨q, (s.port q).session, (s.port q).epoch, (s.port q).principal,
      if (s.port q).session = .up then (s.port q).window.getD 0 else 0,
      (s.port q).inFlight.length,
      ((List.finRange 32).filter fun m =>
        decide ((s.mbx m).state ≠ .free ∧ (s.mbx m).owner = q)).length,
      ((List.finRange 32).filter fun m =>
        decide ((s.mbx m).state = .dormant ∧ (s.mbx m).owner = q)).length,
      (s.port q).badFrames, (s.port q).droppedCommands, (s.port q).lostReports,
      (s.port q).strayAnswers⟩ := by
  rw [State.portView, Table.count_eq_length_indices, Table.count_eq_length_indices]
  rfl

/-- A FREE mailbox's results (R40 note 1). -/
theorem State.mailboxView_free {m : MailboxId} (h : (s.mbx m).state = .free) :
    s.mailboxView m = ⟨0, .free, 0, false, 0, 0, 0, 0, false, 0, 0, 0, false⟩ :=
  if_pos h

/-- Any other mailbox's results, its OFFERED entries listed (R40). -/
theorem State.mailboxView_used {m : MailboxId} (h : (s.mbx m).state ≠ .free) :
    s.mailboxView m =
      ⟨m, (s.mbx m).state, (s.mbx m).owner, (s.mbx m).held, (s.mbx m).depth,
        (s.mbx m).ackWindow, (s.mbx m).retryLimit, (s.mbx m).watermark, (s.mbx m).armed,
        (s.mbx m).queue.length, ((s.mbx m).queue.filter fun e => !s.isQueued e).length,
        secondsLeft s.now (s.mbx m).dormancyDeadline, (s.mbx m).closeReply.isSome⟩ := by
  rw [← List.countP_eq_length_filter]
  exact if_neg h

/-- QUERY_POOL passes both stages on every port that hears (R121, R173). -/
theorem exec_queryPool_hears {s : State} {p : PortId} (seq : Byte) (h : Hears s p) :
    exec (.queryPool p seq) s =
      .next (s.replied p Kind.queryPool seq .ok (.pool s.poolView)) := by
  rw [exec_queryPool, event_awake _ h.awake, takeCommand_open h (.inl rfl)]
  rfl

theorem queryPortOwn_named {which : Byte} {q : PortId} (h : which.toNat = q.val) :
    s.queryPortOwn which = answer s (.port (s.portView q)) := by
  simp only [State.queryPortOwn, portId_eq h]

theorem queryPortOwn_range {which : Byte} (h : 6 ≤ which.toNat) :
    s.queryPortOwn which = refuse s .range := by
  simp only [State.queryPortOwn, portId_none h]

theorem queryMailboxOwn_named {id : Byte} {m : MailboxId} (h : id.toNat = m.val) :
    s.queryMailboxOwn id = answer s (.mailbox (s.mailboxView m)) := by
  simp only [State.queryMailboxOwn, mailboxId_eq h]

theorem queryMailboxOwn_range {id : Byte} (h : 32 ≤ id.toNat) :
    s.queryMailboxOwn id = refuse s .range := by
  simp only [State.queryMailboxOwn, mailboxId_none h]

/-- Settles O18: each query answers its view of the state as it stands. -/
theorem queriesReadAndChangeNothing : Obligations.QueriesReadAndChangeNothing := by
  intro s p seq
  refine ⟨fun hh => ?_, fun hs which hw => ?_, fun hs id hid => ?_, fun hs which q hq => ?_,
    fun hs id m hid => ?_⟩
  · rw [exec_queryPool_hears seq hh, State.poolView_eq]
  · exact exec_refused hs (exec_queryPort ..) (queryPortOwn_range s hw)
  · exact exec_refused hs (exec_queryMailbox ..) (queryMailboxOwn_range s hid)
  · rw [← State.portView_eq]
    exact exec_answered hs (exec_queryPort ..) (queryPortOwn_named s hq)
  · rw [exec_answered hs (exec_queryMailbox ..) (queryMailboxOwn_named s hid)]
    split
    · next hf => rw [State.mailboxView_free s hf]
    · next hf => rw [State.mailboxView_used s hf]; rfl

end Sys2Proof.Machine
end

section
/-! SUPPORT. The checks of the mailbox commands in their order (R27 to R29, R35 to R39). -/

namespace Sys2Proof.Machine

variable {s : State} {p : PortId} {seq id : Byte} {m : MailboxId}

/-! ### OPEN (R27, R28) -/

section
variable {depth : Byte} {ackWindow : Half} {retry watermark : Byte}

/-- The settings that OPEN takes (R27 check 1); a watermark within the depth is within 32. -/
theorem openSettingsOk_iff : openSettingsOk depth ackWindow retry watermark = true ↔
    1 ≤ depth.toNat ∧ depth.toNat ≤ 32 ∧ 1 ≤ ackWindow.toNat ∧ ackWindow.toNat ≤ 10000 ∧
      1 ≤ retry.toNat ∧ retry.toNat ≤ 15 ∧ watermark.toNat ≤ depth.toNat := by
  simp only [openSettingsOk, Config.maxAckWindow, decide_eq_true_eq]
  omega

/-- Id 255 names no mailbox. -/
theorem mailboxId_255 : mailboxId 255#8 = none := mailboxId_none (by decide)

/-- The lowest FREE mailbox is the one that has none below it (R28). -/
theorem lowestFree_eq_some (hf : (s.mbx m).state = .free)
    (hlow : ∀ n, n < m → (s.mbx n).state ≠ .free) : s.lowestFree = some m := by
  cases h : s.lowestFree with
  | none => exact absurd hf (of_decide_eq_false (Table.first_eq_none.1 h m))
  | some n =>
    obtain ⟨hn, hbelow⟩ := Table.first_eq_some h
    rcases lt_trichotomy n m with hlt | rfl | hgt
    · exact absurd (of_decide_eq_true hn) (hlow n hlt)
    · rfl
    · exact absurd hf (of_decide_eq_false (hbelow m hgt))

/-- With every mailbox in use none is found. -/
theorem lowestFree_eq_none (h : ∀ m, (s.mbx m).state ≠ .free) : s.lowestFree = none :=
  Table.first_eq_none.2 fun m => decide_eq_false (h m)

/-- OPEN of a FREE mailbox, named or found (R28). -/
theorem openOwn_done (hok : openSettingsOk depth ackWindow retry watermark = true)
    (hf : (s.mbx m).state = .free)
    (hid : id.toNat = m.val ∨ (id = 255#8 ∧ ∀ n, n < m → (s.mbx n).state ≠ .free)) :
    s.openOwn p id depth ackWindow retry watermark =
      s.openAt p m depth ackWindow retry watermark := by
  rcases hid with hid | ⟨rfl, hlow⟩
  · simp only [State.openOwn, hok, mailboxId_eq hid, hf, if_true]
  · simp only [State.openOwn, hok, mailboxId_255, lowestFree_eq_some hf hlow, if_true]

/-- OPEN with a setting or an id out of range (R27 check 1). -/
theorem openOwn_range (h : ¬(openSettingsOk depth ackWindow retry watermark = true ∧
      (id.toNat ≤ 31 ∨ id = 255#8))) :
    s.openOwn p id depth ackWindow retry watermark = refuse s .range := by
  by_cases hok : openSettingsOk depth ackWindow retry watermark = true
  · have hid : ¬(id.toNat ≤ 31 ∨ id = 255#8) := fun hid => h ⟨hok, hid⟩
    have hnone : mailboxId id = none := mailboxId_none (by omega)
    have h255 : id ≠ 255#8 := fun he => hid (.inr he)
    simp only [State.openOwn, hok, hnone, h255, if_true, if_false]
  · simp only [State.openOwn, hok, Bool.false_eq_true, if_false]

/-- OPEN of a mailbox in use (R27 check 2). -/
theorem openOwn_wrongState (hok : openSettingsOk depth ackWindow retry watermark = true)
    (hid : id.toNat = m.val) (hf : (s.mbx m).state ≠ .free) :
    s.openOwn p id depth ackWindow retry watermark = refuse s .wrongState := by
  simp only [State.openOwn, hok, mailboxId_eq hid, if_neg hf, if_true]

/-- OPEN that finds no FREE mailbox (R27 check 3). -/
theorem openOwn_noMailbox (hok : openSettingsOk depth ackWindow retry watermark = true)
    (hall : ∀ m, (s.mbx m).state ≠ .free) :
    s.openOwn p 255#8 depth ackWindow retry watermark = refuse s .noMailbox := by
  simp only [State.openOwn, hok, mailboxId_255, lowestFree_eq_none hall, if_true]

end

/-- Settles O19: with its settings in range OPEN comes to the mailbox that it names or finds. -/
theorem openMakesAMailboxOpen : Obligations.OpenMakesAMailboxOpen := by
  intro s p seq id depth ackWindow retry watermark m hs hd1 hd2 ha1 ha2 hr1 hr2 hw hf hid
  have hok := openSettingsOk_iff.2 ⟨hd1, hd2, ha1, ha2, hr1, hr2, hw⟩
  exact exec_answered hs (exec_openMailbox ..) (openOwn_done hok hf hid)

/-! ### HOLD, RESUME and RECLAIM (R37 to R39) -/

/-- The checks of HOLD and RESUME on the mailbox that they name, in their order (R37, R38). -/
theorem setHeldOwn_named (hid : id.toNat = m.val) (held : Bool) :
    s.setHeldOwn p id held =
      if (s.mbx m).state = .free then refuse s .noSuch
      else if (s.mbx m).owner ≠ p then refuse s .notOwner
      else if (s.mbx m).state = .opened then
        answer (s.updMbx m fun x => { x with held := held })
          (.queueLength m (s.mbx m).queue.length)
      else refuse s .wrongState := by
  simp only [State.setHeldOwn, mailboxId_eq hid]

/-- The checks of RECLAIM on the mailbox that it names, in their order (R39). -/
theorem reclaimOwn_named (hid : id.toNat = m.val) :
    s.reclaimOwn p id =
      if (s.mbx m).state = .free then refuse s .noSuch
      else if (s.mbx m).owner ≠ p ∧ (s.port p).principal = false then refuse s .notOwner
      else if (s.mbx m).state = .dormant then
        answer
          (s.updMbx m fun x => { x with state := .opened, dormancyDeadline := none, owner := p })
          (.reclaimed m (s.mbx m).queue.length (s.mbx m).held)
      else refuse s .wrongState := by
  simp only [State.reclaimOwn, mailboxId_eq hid]

/-- The owner and the principal pass RECLAIM's owner check (R39). -/
theorem reclaimer_admitted (h : (s.mbx m).owner = p ∨ (s.port p).principal = true) :
    ¬((s.mbx m).owner ≠ p ∧ (s.port p).principal = false) := by
  rintro ⟨ho, hp⟩
  rcases h with h | h
  · exact ho h
  · rw [hp] at h
    cases h

/-- HOLD and RESUME of the port's own OPEN mailbox (R37, R38). -/
theorem setHeldOwn_done (hid : id.toNat = m.val) (ho : (s.mbx m).owner = p)
    (hopen : (s.mbx m).state = .opened) (held : Bool) :
    s.setHeldOwn p id held = answer (s.updMbx m fun x => { x with held := held })
      (.queueLength m (s.mbx m).queue.length) := by
  rw [setHeldOwn_named hid, if_neg (by rw [hopen]; decide), if_neg (not_not.2 ho), if_pos hopen]

/-- RECLAIM of a DORMANT mailbox by its owner or by the principal (R39). -/
theorem reclaimOwn_done (hid : id.toNat = m.val) (hdor : (s.mbx m).state = .dormant)
    (ho : (s.mbx m).owner = p ∨ (s.port p).principal = true) :
    s.reclaimOwn p id = answer
      (s.updMbx m fun x => { x with state := .opened, dormancyDeadline := none, owner := p })
      (.reclaimed m (s.mbx m).queue.length (s.mbx m).held) := by
  rw [reclaimOwn_named hid, if_neg (by rw [hdor]; decide), if_neg (reclaimer_admitted ho),
    if_pos hdor]

/-- Settles O20: every check passes, so each command comes to its effect. -/
theorem holdResumeAndReclaim : Obligations.HoldResumeAndReclaim := by
  intro s p seq id m hs hid
  refine ⟨fun ho hopen => ⟨?_, ?_⟩, fun hdor ho => ?_⟩
  · exact exec_answered hs (exec_hold ..) (setHeldOwn_done hid ho hopen true)
  · exact exec_answered hs (exec_resume ..) (setHeldOwn_done hid ho hopen false)
  · exact exec_answered hs (exec_reclaim ..) (reclaimOwn_done hid hdor ho)

/-! ### The refusals of CLOSE, HOLD, RESUME and RECLAIM (R29, R37 to R39) -/

/-- The checks of CLOSE on the mailbox that it names, in their order (R29). -/
theorem closeOwn_named (hid : id.toNat = m.val) :
    s.closeOwn p seq id =
      if (s.mbx m).state = .free then refuse s .noSuch
      else if (s.mbx m).owner ≠ p then refuse s .notOwner
      else s.closeAt p seq m := by
  simp only [State.closeOwn, mailboxId_eq hid]

theorem closeOwn_range (h : 32 ≤ id.toNat) : s.closeOwn p seq id = refuse s .range := by
  simp only [State.closeOwn, mailboxId_none h]

theorem setHeldOwn_range (h : 32 ≤ id.toNat) (held : Bool) :
    s.setHeldOwn p id held = refuse s .range := by
  simp only [State.setHeldOwn, mailboxId_none h]

theorem reclaimOwn_range (h : 32 ≤ id.toNat) : s.reclaimOwn p id = refuse s .range := by
  simp only [State.reclaimOwn, mailboxId_none h]

/-- A close of a mailbox already CLOSING (R29, R35). -/
theorem closeAt_closing (h : (s.mbx m).state = .closing) :
    s.closeAt p seq m = refuse s .wrongState := by
  simp only [State.closeAt, h]

/-- Only an OPEN mailbox is held or resumed (R37, R38). -/
theorem setHeldOwn_wrongState (hid : id.toNat = m.val) (ho : (s.mbx m).owner = p)
    (h : (s.mbx m).state = .closing ∨ (s.mbx m).state = .dormant) (held : Bool) :
    s.setHeldOwn p id held = refuse s .wrongState := by
  rw [setHeldOwn_named hid, if_neg, if_neg (not_not.2 ho), if_neg] <;>
    rcases h with h | h <;> rw [h] <;> decide

/-- Only a DORMANT mailbox is reclaimed (R39). -/
theorem reclaimOwn_wrongState (hid : id.toNat = m.val)
    (h : (s.mbx m).state = .opened ∨ (s.mbx m).state = .closing)
    (ho : (s.mbx m).owner = p ∨ (s.port p).principal = true) :
    s.reclaimOwn p id = refuse s .wrongState := by
  rw [reclaimOwn_named hid, if_neg, if_neg (reclaimer_admitted ho), if_neg] <;>
    rcases h with h | h <;> rw [h] <;> decide

/-- Settles O21: each clause is the first check that fails. -/
theorem mailboxCommandRefusals : Obligations.MailboxCommandRefusals := by
  intro s p seq id hs
  have hclose {st} : s.closeOwn p seq id = refuse s st →
      exec (.close p seq id) s = .next (s.replied p Kind.close seq st .none) :=
    exec_refused hs (exec_close ..)
  have hhold {st} : s.setHeldOwn p id true = refuse s st →
      exec (.hold p seq id) s = .next (s.replied p Kind.hold seq st .none) :=
    exec_refused hs (exec_hold ..)
  have hresume {st} : s.setHeldOwn p id false = refuse s st →
      exec (.resume p seq id) s = .next (s.replied p Kind.resume seq st .none) :=
    exec_refused hs (exec_resume ..)
  have hreclaim {st} : s.reclaimOwn p id = refuse s st →
      exec (.reclaim p seq id) s = .next (s.replied p Kind.reclaim seq st .none) :=
    exec_refused hs (exec_reclaim ..)
  refine ⟨fun h => ⟨hclose (closeOwn_range h), hhold (setHeldOwn_range h _),
    hresume (setHeldOwn_range h _), hreclaim (reclaimOwn_range h)⟩, fun m hid => ?_⟩
  have hheld := fun held => setHeldOwn_named (s := s) (p := p) hid held
  refine ⟨fun hf => ⟨hclose ?_, hhold ?_, hresume ?_, hreclaim ?_⟩,
    fun hf ho => ⟨hclose ?_, hhold ?_, hresume ?_⟩, fun hf ho hp => hreclaim ?_,
    fun hcl ho => hclose ?_, fun h ho => hreclaim (reclaimOwn_wrongState hid h ho),
    fun h ho => ⟨hhold (setHeldOwn_wrongState hid ho h _),
      hresume (setHeldOwn_wrongState hid ho h _)⟩⟩
  · rw [closeOwn_named hid, if_pos hf]
  · rw [hheld, if_pos hf]
  · rw [hheld, if_pos hf]
  · rw [reclaimOwn_named hid, if_pos hf]
  · rw [closeOwn_named hid, if_neg hf, if_pos ho]
  · rw [hheld, if_neg hf, if_pos ho]
  · rw [hheld, if_neg hf, if_pos ho]
  · rw [reclaimOwn_named hid, if_neg hf, if_pos ⟨ho, hp⟩]
  · rw [closeOwn_owner hid ho (by rw [hcl]; decide), closeAt_closing hcl]

/-! ### The refusals of OPEN and FORCE_CLOSE (R27, R35) -/

theorem forceCloseOwn_range (h : 32 ≤ id.toNat) : s.forceCloseOwn p seq id = refuse s .range := by
  simp only [State.forceCloseOwn, mailboxId_none h]

theorem forceCloseOwn_noSuch (hid : id.toNat = m.val) (h : (s.mbx m).state = .free) :
    s.forceCloseOwn p seq id = refuse s .noSuch := by
  simp only [State.forceCloseOwn, mailboxId_eq hid, h]

theorem forceCloseOwn_wrongState (hid : id.toNat = m.val) (h : (s.mbx m).state = .closing) :
    s.forceCloseOwn p seq id = refuse s .wrongState := by
  simp only [State.forceCloseOwn, mailboxId_eq hid, h]

/-- Settles O22: the settings that R27 admits are those that `openSettingsOk` takes. -/
theorem openAndForceCloseRefusals : Obligations.OpenAndForceCloseRefusals := by
  rintro s p seq id depth ackWindow retry watermark hs good r hgood rfl
  have hopen {st} : s.openOwn p id depth ackWindow retry watermark = refuse s st →
      exec (.openMailbox p seq id depth ackWindow retry watermark) s =
        .next (s.replied p Kind.openMailbox seq st .none) :=
    exec_refused hs (exec_openMailbox ..)
  have hok : good ↔ openSettingsOk depth ackWindow retry watermark = true ∧
      (id.toNat ≤ 31 ∨ id = 255#8) := by
    rw [hgood, openSettingsOk_iff]
    tauto
  refine ⟨fun hg => hopen (openOwn_range (mt hok.2 hg)),
    fun hg m hid hf => hopen (openOwn_wrongState (hok.1 hg).1 hid hf), ?_, fun hp => ?_⟩
  · rintro hg rfl hall
    exact hopen (openOwn_noMailbox (hok.1 hg).1 hall)
  · have hforce {st} (ho : s.forceCloseOwn p seq id = refuse s st) :
        exec (.forceClose p seq id) s = .next (s.replied p Kind.forceClose seq st .none) :=
      exec_refused hs (exec_forceClose ..) ((ofPrincipal_yes hp).trans ho)
    exact ⟨fun h => hforce (forceCloseOwn_range h), fun m hid =>
      ⟨fun h => hforce (forceCloseOwn_noSuch hid h),
        fun h => hforce (forceCloseOwn_wrongState hid h)⟩⟩

end Sys2Proof.Machine
end

section
/-! SUPPORT. The fields of SEND and ATTACH read from their bytes (R45, R47, R127, R149), and the refusals of
ATTACH and CANCEL (R58, R127). -/

namespace Sys2Proof.Machine

/-! ### Destination, class and report wish (R45, R149) -/

section
variable {b : Byte}

theorem groupId_eq {g : GroupId} (h : b.toNat = 32 + g.val) : groupId b = some g := by
  have hrange : 32 ≤ b.toNat ∧ b.toNat < 40 := by omega
  rw [groupId, dif_pos hrange]
  exact congrArg some (Fin.ext (by simp only [h]; omega))

theorem groupId_none (h : 40 ≤ b.toNat) : groupId b = none :=
  dif_neg fun hr => absurd hr.2 (Nat.not_lt.2 h)

/-- 0 to 31 is a mailbox (R45). -/
theorem destinationOf_mailbox {m : MailboxId} (h : b.toNat = m.val) :
    destinationOf b = some (.unicast m) := by
  simp only [destinationOf, mailboxId_eq h]

/-- 32 to 39 is a group (R45). -/
theorem destinationOf_group {g : GroupId} (h : b.toNat = 32 + g.val) :
    destinationOf b = some (.fanOut g) := by
  simp only [destinationOf, mailboxId_none (h ▸ Nat.le_add_right 32 g.val), groupId_eq h,
    Option.map_some]

theorem destinationOf_none (h : 40 ≤ b.toNat) : destinationOf b = none := by
  have hm : mailboxId b = none := mailboxId_none (by omega)
  simp only [destinationOf, hm, groupId_none h, Option.map_none]

/-- The destinations are the bytes 0 to 39 (R45). -/
theorem destinationOf_isSome : (destinationOf b).isSome = true ↔ b.toNat ≤ 39 := by
  rcases Nat.lt_or_ge b.toNat 32 with hm | hm
  · have hd := destinationOf_mailbox (b := b) (m := ⟨b.toNat, hm⟩) rfl
    simp only [hd, Option.isSome_some, true_iff]
    omega
  rcases Nat.lt_or_ge b.toNat 40 with hg | hg
  · have hd := destinationOf_group (b := b) (g := ⟨b.toNat - 32, by omega⟩)
      (Nat.add_sub_cancel' hm).symm
    simp only [hd, Option.isSome_some, true_iff]
    omega
  · simp only [destinationOf_none hg, Option.isSome_none, Bool.false_eq_true, false_iff]
    omega

/-- The classes are the bytes 0 to 3 (R149). -/
theorem classOf_isSome : (classOf b).isSome = true ↔ b.toNat ≤ 3 := by
  have hb : b.toNat ≤ 3 ↔ b = 0#8 ∨ b = 1#8 ∨ b = 2#8 ∨ b = 3#8 := by bv_omega
  rw [hb, classOf]
  split_ifs <;> simp [*]

/-- The yes/no fields are the bytes 0 and 1 (R149). -/
theorem yesNo_isSome : (yesNo b).isSome = true ↔ b.toNat ≤ 1 := by
  have hb : b.toNat ≤ 1 ↔ b = 0#8 ∨ b = 1#8 := by bv_omega
  rw [hb, yesNo]
  split_ifs <;> simp [*]

end

/-! ### The range check of SEND (R47) -/

section
variable {dest cls report : Byte} {tag lifetime : Half} {declared : Byte} {payload : List Byte}

/-- The fields of a SEND are those that its bytes stand for, each in its range. -/
theorem sendFields_eq_some_iff {f : SendFields} :
    sendFields dest cls report tag lifetime declared payload = some f ↔
      destinationOf dest = some f.dest ∧ classOf cls = some f.cls ∧
        yesNo report = some f.reportWanted ∧
        (lifetime.toNat ≤ Config.maxLifetime ∧ declared.toNat ≤ Config.maxPayload ∧
          payload.length = declared.toNat) ∧
        f.tag = tag ∧ f.lifetime = lifetime.toNat ∧ f.payload = payload := by
  obtain ⟨d, c, r, t, l, y⟩ := f
  unfold sendFields
  split
  · next d' c' r' hd hc hr =>
    rw [hd, hc, hr]
    split
    · next hrange =>
      simp only [Option.some.injEq, SendFields.mk.injEq, hrange, true_and, and_self, eq_comm]
    · next hrange => simp [hrange]
  · next hnone =>
    exact iff_of_false nofun fun ⟨hd, hc, hr, _⟩ => hnone _ _ _ hd hc hr

/-- The range check passes when each field has a value and the payload its declared length. -/
theorem sendFields_isSome :
    (sendFields dest cls report tag lifetime declared payload).isSome = true ↔
      (destinationOf dest).isSome = true ∧ (classOf cls).isSome = true ∧
        (yesNo report).isSome = true ∧ lifetime.toNat ≤ Config.maxLifetime ∧
        declared.toNat ≤ Config.maxPayload ∧ payload.length = declared.toNat := by
  simp only [Option.isSome_iff_exists, sendFields_eq_some_iff]
  constructor
  · rintro ⟨f, hd, hc, hr, hrange, -⟩
    exact ⟨⟨_, hd⟩, ⟨_, hc⟩, ⟨_, hr⟩, hrange⟩
  · rintro ⟨⟨d, hd⟩, ⟨c, hc⟩, ⟨r, hr⟩, hrange⟩
    exact ⟨⟨d, c, r, tag, lifetime.toNat, payload⟩, hd, hc, hr, hrange, rfl, rfl, rfl⟩

end

/-- Settles O26: the range check reads each field on its own, so the ranges and the values are those of
`destinationOf`, `classOf` and `yesNo`. -/
theorem sendRangeCheck : Obligations.SendRangeCheck := by
  intro dest cls report tag lifetime declared payload
  refine ⟨?_, fun f hf => ?_⟩
  · rw [sendFields_isSome, destinationOf_isSome, classOf_isSome, yesNo_isSome]
  · obtain ⟨hd, hc, hr, -, htag, hlife, hpay⟩ := sendFields_eq_some_iff.1 hf
    have hclass {b c} (hb : cls = b) (h : classOf b = some c) : f.cls = c :=
      Option.some.inj ((hb ▸ hc).symm.trans h)
    have hreport {b r} (hb : report = b) (h : yesNo b = some r) : f.reportWanted = r :=
      Option.some.inj ((hb ▸ hr).symm.trans h)
    exact ⟨fun m hm => Option.some.inj (hd.symm.trans (destinationOf_mailbox hm)),
      fun g hg => Option.some.inj (hd.symm.trans (destinationOf_group hg)),
      fun h => hclass h rfl, fun h => hclass h rfl, fun h => hclass h rfl, fun h => hclass h rfl,
      fun h => hreport h rfl, fun h => hreport h rfl, htag, hlife, hpay⟩

/-! ### The refusals of ATTACH and CANCEL (R58, R127) -/

section
variable {s : State} {p : PortId} {seq window enables : Byte} {tag : Half}

theorem windowOf_none (h : window.toNat < 1 ∨ 4 < window.toNat) : windowOf window = none :=
  if_neg (by omega)

theorem eventSet_none (h : enables.msb = true) : eventSet enables = none := if_pos h

/-- ATTACH on an UP port (R127). -/
theorem attachOwn_wrongState (h : (s.port p).session = .up) :
    s.attachOwn p window enables = refuse s .wrongState := if_pos h

/-- ATTACH with a window or an event set out of range (R127). -/
theorem attachOwn_range (h : (s.port p).session ≠ .up)
    (hr : windowOf window = none ∨ eventSet enables = none) :
    s.attachOwn p window enables = refuse s .range := by
  rw [State.attachOwn, if_neg h]
  rcases hr with hw | he
  · rw [hw]
  · rw [he]
    cases windowOf window <;> rfl

/-- Outside FAULT an ATTACH that its own checks refuse changes nothing else on any port that hears (R121). -/
theorem exec_attach_refused {st : Status} (hh : Hears s p) (hm : s.mode ≠ .fault)
    (ho : s.attachOwn p window enables = refuse s st) :
    exec (.attach p seq window enables) s =
      .next (s.replied p Kind.attach seq st .none) := by
  rw [exec_attach, event_awake _ hh.awake, takeCommand_open hh (.inr ⟨rfl, hm⟩), ho]
  rfl

/-- CANCEL of a tag not in use (R58). -/
theorem cancelOwn_noTag (h : s.findTag p (s.port p).epoch tag = none) :
    s.cancelOwn p tag = refuse s .noTag := by
  simp only [State.cancelOwn, h]

end

/-- Settles O31: ATTACH passes the session stage on an UP and on an ANNOUNCED port alike, so its own checks
decide; CANCEL's search finds no message. -/
theorem attachAndCancelRefusals : Obligations.AttachAndCancelRefusals := by
  intro s p seq window enables tag
  refine ⟨fun hs => exec_attach_refused hs.hears hs.mode (attachOwn_wrongState hs.up),
    fun hh hm ha hr => exec_attach_refused hh hm (attachOwn_range (by rw [ha]; decide) ?_),
    fun hs hfresh => exec_refused hs (exec_cancel ..) (cancelOwn_noTag (findTag_none.2 hfresh))⟩
  rcases hr with hw | hw | he
  · exact .inl (windowOf_none (.inl hw))
  · exact .inl (windowOf_none (.inr hw))
  · exact .inr (eventSet_none he)

end Sys2Proof.Machine
end

section
/-! SUPPORT. The laws of ports and mode over a test end (R125, R139, R177, R180), without the law of the store. -/

namespace Sys2Proof.Machine

variable {s t : State} {p : PortId}

/-! ### The teardown of a test fault (R139, R180) -/

/-- What holds between the session ends of a test fault: the laws of ports and mode but for the mode itself,
which is FAULT already while the ports `ps` may still be UP. -/
structure FaultEnding (s : State) (ps : List PortId) : Prop where
  ports : s.portsLawful
  store : ∀ d, s.desc d = none
  startUp : s.startUp = false
  heard : ∀ p, (s.port p).session = .down → (s.port p).lineInBreak = true
  left : ∀ p, (s.port p).session = .up → p ∈ ps

/-- A session that a test fault ends leaves the port ANNOUNCED, its record lawful, and the others steady. -/
theorem FaultEnding.endSession {ps : List PortId} (h : FaultEnding s (p :: ps))
    (hm : s.mode ≠ .running) (hup : (s.port p).session = .up) :
    FaultEnding (s.endSession p .testFault) ps := by
  obtain ⟨ht, hq, x, hx, hp⟩ := steady_endSession s p .testFault
  have hself : ((s.endSession p .testFault).port p).session = .announced := by
    rw [hp]
    rfl
  refine ⟨fun q => ?_, fun d => (ht.store.resolve_left hm) d (h.store d), ht.startUp.trans h.startUp,
    fun q hd => ?_, fun q hu => ?_⟩ <;> by_cases hqp : q = p
  · rw [hqp, hp]
    exact (hx.law (h.ports p)).faulted (hx.session.trans hup)
  · exact (hq q hqp).law (h.ports q)
  · rw [hqp, hself] at hd
    cases hd
  · rw [(hq q hqp).line]
    exact h.heard q ((hq q hqp).session.symm.trans hd)
  · rw [hqp, hself] at hu
    cases hu
  · exact (List.mem_cons.1 (h.left q ((hq q hqp).session.symm.trans hu))).resolve_left hqp

/-- Every session ended by a test fault. -/
theorem FaultEnding.foldl {ps : List PortId} (h : FaultEnding s ps) (hm : s.mode ≠ .running) :
    FaultEnding (ps.foldl (fun u p => u.endSessionAtFault p) s) [] := by
  induction ps generalizing s with
  | nil => exact h
  | cons p ps ih =>
    rw [List.foldl_cons, State.endSessionAtFault]
    split
    · next hup =>
      refine ih (h.endSession hm hup) ?_
      rw [(steady_endSession s p .testFault).1.mode]
      exact hm
    · next hup =>
      have hleft : ∀ q, (s.port q).session = .up → q ∈ ps := fun q hu =>
        (List.mem_cons.1 (h.left q hu)).resolve_left (fun hqp => hup (hqp ▸ hu))
      exact ih { h with left := hleft } hm

/-- With every session ended, the mailboxes freed and the ports announced afresh (R180, R181). -/
theorem FaultEnding.freed (h : FaultEnding s []) : s.freed.portsAndMode := by
  have hup : ∀ p, (s.port p).session ≠ .up := fun p hu => by cases h.left p hu
  have hport : ∀ p, s.freed.port p = (s.port p).afterFault := State.port_allPorts _ _
  refine ⟨fun p => ?_, fun _ => h.store, fun _ => ⟨fun m => ?_, fun p => ?_⟩,
    fun hs => absurd (h.startUp.symm.trans hs) (by decide), fun _ p hd => ?_⟩
  · rw [hport]
    exact (h.ports p).afterFault (hup p)
  · exact congrArg Mailbox.state (Table.get_replicate Mailbox.blank m)
  · rw [hport, (s.port p).afterFault_fields.2.2.2]
    split <;> decide
  · obtain ⟨-, -, hline, hsess⟩ := (s.port p).afterFault_fields
    rw [hport] at hd ⊢
    rw [hline]
    rw [hsess] at hd
    split at hd
    · next hdown => exact h.heard p hdown
    · cases hd

/-! ### Test ends (R177) -/

/-- The end of the start-up interval: every port whose line is not in break is announced (R125). -/
theorem portsAndMode_announceAll (hp : s.portsLawful) (hd : ∀ d, s.desc d = none)
    (hfree : ∀ m, (s.mbx m).state = .free) (hs : s.startUp = false)
    (hdown : ∀ p, (s.port p).session = .down) : s.announceAll.portsAndMode := by
  have hup : ∀ p, (s.port p).session ≠ .up := fun p => by rw [hdown]; decide
  have hport : ∀ p, s.announceAll.port p =
      if (s.port p).lineInBreak then s.port p else (s.port p).announce := State.port_allPorts _ _
  refine ⟨fun p => ?_, fun _ => hd, fun _ => ⟨hfree, fun p => ?_⟩,
    fun h => absurd (hs.symm.trans h) (by decide), fun _ p => ?_⟩ <;> rw [hport] <;> split
  · exact hp p
  · next hb => exact portLaw_iff.2 ⟨(portLaw_iff.1 (hp p)).1.announce (hup p), fun h => absurd h hb⟩
  · exact hup p
  · exact nofun
  · next hb => exact fun _ => hb
  · exact nofun

/-- A test end keeps the laws of ports and mode (R177). -/
theorem portsAndMode_testEnd (hl : s.portsAndMode) (hm : s.mode = .testing) (failed : List BufferId) :
    ((s.endTest failed).afterTest s.startUp).portsAndMode := by
  have ht := tested_endTest s failed
  have hd : ∀ d, (s.endTest failed).desc d = none := fun d =>
    (congrArg (·.get d) ht.descriptors).trans (hl.2.store (by rw [hm]; decide) d)
  have steady : ∀ p, PortSteady (s.port p) ((s.endTest failed).port p) := fun p => by
    rcases ht.raised p with hr | hr <;> rw [hr]
    · exact .refl _
    · exact portSteady_raise _ _
  have hp : (s.endTest failed).portsLawful := fun p => (steady p).law (hl.1 p)
  unfold State.afterTest
  split
  · next hsu =>
    obtain ⟨-, hfree, hdown⟩ := hl.2.startUp hsu
    exact portsAndMode_announceAll hp hd
      (fun m => (congrArg (fun b => (b.get m).state) ht.mailboxes).trans (hfree m)) rfl
      fun p => (steady p).session.trans (hdown p)
  · next hsu =>
    have hheard : ∀ p, ((s.endTest failed).port p).session = .down →
        ((s.endTest failed).port p).lineInBreak = true := fun p => by
      rw [(steady p).session, (steady p).line]
      exact hl.2.heard (Bool.eq_false_iff.2 hsu) p
    split
    · next hf =>
      have hbegin : FaultEnding (s.endTest failed) (List.finRange 6) :=
        ⟨hp, hd, rfl, hheard, fun p _ => List.mem_finRange p⟩
      exact (hbegin.foldl (by rw [hf]; decide)).freed
    · next hf =>
      exact (steady_allPorts (s.endTest failed) fun p => portSteady_complete _ _ _).portsAndMode
        ⟨hp, fun _ => hd, fun h => absurd h hf, nofun, fun _ => hheard⟩

/-! ### Every step -/

/-- An outcome keeps the laws of ports and mode. -/
theorem Outcome.portsAndMode (h : Outcome s t) (hl : s.portsAndMode) : t.portsAndMode := by
  induction h with
  | same => exact hl
  | powerOn s psel rate =>
    have hv := (lawful_powerOnValues psel rate).withPending s.pending false
    exact ⟨hv.ports, hv.mode⟩
  | enterReset s =>
    have hv := (lawful_powerOnValues 7#3 0#2).withPending s.pending true
    exact ⟨hv.ports, hv.mode⟩
  | reach s t n _ ih => exact ih ⟨hl.1, hl.2.store, hl.2.fault, hl.2.startUp, hl.2.heard⟩
  | receive s t p r hp _ ih => exact ih ((steady_updPort s (portSteady_receiver hp r)).portsAndMode hl)
  | drop s p => exact (steady_updPort s (portSteady_dropCommand _)).portsAndMode hl
  | answer s t p kind seq hh h => exact h.portsAndMode hh hl
  | stray s p => exact (steady_updPort s (portSteady_stray _)).portsAndMode hl
  | resolve s p e o => exact (steady_thenClose s e (steady_resolve s e o)).portsAndMode hl
  | unaccepted s p e => exact (steady_thenClose s e (steady_nonAccepting s e true)).portsAndMode hl
  | select s p => exact (steady_select s p).portsAndMode hl
  | expire s i =>
    exact ((steady_resolveAll s _ .expired).trans (steady_updDesc _ i _)).portsAndMode hl
  | dormancy s m => exact (steady_freeDormant s m).portsAndMode hl
  | breakStart s p => exact portsAndMode_breakStarts hl p
  | breakEnd s p => exact portsAndMode_breakEnds hl p
  | discard s p => exact (steady_discardFrame s p).portsAndMode hl
  | arbitrate s p => exact (steady_arbitrate s p).portsAndMode hl
  | lastByte s p => exact (steady_lastByteSent s p).portsAndMode hl
  | idleEnd s p => exact (steady_stoppedIdleEnded s p).portsAndMode hl
  | testEnd s failed hm => exact portsAndMode_testEnd hl hm failed

/-- Settles O54: a step is an outcome of the command at the front, and every outcome keeps both laws; most are
steady acts, and a test fault ends its sessions while the mode is FAULT already. -/
theorem stepKeepsPortsAndMode : Obligations.StepKeepsPortsAndMode := fun s _ hp hm hx => by
  obtain ⟨rest, h⟩ := outcome_of_step hx
  exact h.portsAndMode ⟨hp, hm.store, hm.fault, hm.startUp, hm.heard⟩

end Sys2Proof.Machine
end

section
/-! SUPPORT. The answers of a host that name no AWAITING offer or carry no yes/no field (R75 to R79). -/

namespace Sys2Proof.Machine

variable {s : State} {p : PortId} {id : Byte}

/-- A counter that stands at 65535 stays there (R137). -/
theorem bump_eq (c : BitVec 16) : bump c = if c = 0xFFFF#16 then 0xFFFF#16 else c + 1#16 := by
  unfold bump
  split
  · assumption
  · rfl

theorem State.stray_eq (s : State) (p : PortId) : s.stray p = s.updPort p fun x =>
    { x with
      strayAnswers :=
        if x.strayAnswers = 0xFFFF#16 then 0xFFFF#16 else x.strayAnswers + 1#16 } :=
  State.updPort_congr (congrArg (fun c => { s.port p with strayAnswers := c }) (bump_eq _))

/-- The offer found is an AWAITING one of the port's list, and carries the id (R76). -/
theorem findAwaiting_some {e : EntryId} {n : Nat} (h : s.findAwaiting p id = some (e, n)) :
    e ∈ (s.port p).inFlight ∧ ∃ en, s.entry e = some en ∧ en.offer = some ⟨id, .awaiting n⟩ := by
  refine ⟨findAwaiting_mem h, ?_⟩
  obtain ⟨f, hf, hm⟩ := Option.bind_eq_some_iff.1 h
  obtain ⟨k, hk, hfk⟩ := Option.map_eq_some_iff.1 hm
  cases hfk
  have hid := List.find?_some hf
  unfold State.ackDeadline at hk
  split at hk
  · next i _ he =>
    cases hk
    rw [he] at hid
    have : i = id := by simpa using hid
    exact ⟨_, he, by rw [this]⟩
  · cases hk

/-- A DOWN port ignores an answer (R75). -/
theorem takeAnswer_down {act : EntryId → State} (h : (s.port p).session = .down) :
    s.takeAnswer p id act = s := by
  simp only [State.takeAnswer, h]

/-- On an ANNOUNCED port an answer is stray (R75). -/
theorem takeAnswer_announced {act : EntryId → State} (h : (s.port p).session = .announced) :
    s.takeAnswer p id act = s.stray p := by
  simp only [State.takeAnswer, h]

/-- On an UP port an answer is stray if the act on each AWAITING offer that it names is (R76, R79). -/
theorem takeAnswer_stray {act : EntryId → State} (h : (s.port p).session = .up)
    (hact : ∀ e n, s.findAwaiting p id = some (e, n) → act e = s.stray p) :
    s.takeAnswer p id act = s.stray p := by
  simp only [State.takeAnswer, h]
  split
  · next e n hf => exact hact e n hf
  · rfl

/-- Settles O37: an answer reaches `State.stray` on an ANNOUNCED port, with no AWAITING offer found, and with a
requeue field that is neither no nor yes. -/
theorem strayAnswersAreCounted : Obligations.StrayAnswersAreCounted := by
  intro s p offer requeue hr u hu
  rw [← State.stray_eq] at hu
  rw [hu, exec_accept, exec_decline, event_awake _ hr, event_awake _ hr]
  refine ⟨fun hd => ⟨congrArg _ (takeAnswer_down hd), congrArg _ (takeAnswer_down hd)⟩,
    fun ha => ⟨congrArg _ (takeAnswer_announced ha), congrArg _ (takeAnswer_announced ha)⟩,
    fun hup hno => ?_, fun hup hq => congrArg _ (takeAnswer_stray hup fun e n _ => ?_)⟩
  · have hnone : ∀ e n, s.findAwaiting p offer ≠ some (e, n) := fun e n hf => by
      obtain ⟨he, en, hen, ho⟩ := findAwaiting_some hf
      exact hno e he en n hen ho
    exact ⟨congrArg _ (takeAnswer_stray hup fun e n hf => absurd hf (hnone e n)),
      congrArg _ (takeAnswer_stray hup fun e n hf => absurd hf (hnone e n))⟩
  · have hy : yesNo requeue = none := by
      rw [← Option.not_isSome_iff_eq_none, yesNo_isSome]
      omega
    simp only [hy]

end Sys2Proof.Machine
end

section
/-! SUPPORT. A selection (R66 to R71): when one is made, which entry it chooses, and the offer id that it takes. -/

namespace Sys2Proof.Machine

variable {s : State} {p : PortId}

/-! ### Who may be offered (R66) -/

/-- A QUEUED entry of an OPEN mailbox of the port that is not held (R66 condition 4). -/
def State.isCandidate (s : State) (p : PortId) (e : EntryId) (en : Entry) : Prop :=
  s.entry e = some en ∧ en.offer = none ∧ (s.mbx en.mailbox).owner = p ∧
    (s.mbx en.mailbox).state = .opened ∧ (s.mbx en.mailbox).held = false

/-- The list of candidates holds the candidates. -/
theorem StoreCore.mem_candidates_iff (h : StoreCore s) {e : EntryId} :
    e ∈ s.candidates p ↔ ∃ en, s.isCandidate p e en := by
  simp only [State.candidates, List.mem_flatMap, List.mem_finRange, true_and]
  constructor
  · rintro ⟨m, hm⟩
    split at hm
    · next hx =>
      obtain ⟨hq, hqd⟩ := List.mem_filter.1 hm
      obtain ⟨en, hen, rfl⟩ := h.queue m e hq
      rw [State.isQueued_some hen] at hqd
      exact ⟨en, hen, Option.isNone_iff_eq_none.1 hqd, hx⟩
    · cases hm
  · rintro ⟨en, hen, hoff, hx⟩
    refine ⟨en.mailbox, ?_⟩
    rw [if_pos hx]
    refine List.mem_filter.2 ⟨(h.mem_queue hen _).2 rfl, ?_⟩
    rw [State.isQueued_some hen]
    exact Option.isNone_iff_eq_none.2 hoff

/-- The port is UP, its list has room in its window, and no offer is prepared or on the line (R66 conditions 1
to 3). -/
theorem mayOffer_eq_true_iff : s.mayOffer p = true ↔ (s.port p).session = .up ∧
    (∃ w, (s.port p).window = some w ∧ (s.port p).inFlight.length < w) ∧
    (s.port p).prepared = none ∧ ∀ o, (s.port p).tx ≠ .sending (.offer o) := by
  have hwindow : (s.port p).inFlight.length < (s.port p).window.getD 0 ↔
      ∃ w, (s.port p).window = some w ∧ (s.port p).inFlight.length < w := by
    cases (s.port p).window <;> simp
  have htx : (s.port p).tx.isOffer = false ↔ ∀ o, (s.port p).tx ≠ .sending (.offer o) := by
    cases (s.port p).tx with
    | sending f => cases f <;> simp [Transmitter.isOffer]
    | idle | stopped => simp [Transmitter.isOffer]
  simp only [State.mayOffer, Bool.and_eq_true, decide_eq_true_eq, Bool.not_eq_true', hwindow, htx,
    and_assoc]

/-! ### The order of the candidates (R68) -/

theorem keyAhead_irrefl (a : Nat × Nat) : keyAhead a a = false := by
  simp [keyAhead]

theorem keyAhead_asymm {a b : Nat × Nat} (h : keyAhead a b = true) : keyAhead b a = false := by
  simp only [keyAhead, decide_eq_true_eq, decide_eq_false_iff_not] at *
  omega

/-- The choice among a first candidate and more: all before the chosen one have a worse key, and none behind it
has a better one. -/
theorem foldl_better (s : State) (es : List EntryId) (b : EntryId) :
    ∃ e ahead behind, es.foldl s.better (some b) = some e ∧ b :: es = ahead ++ e :: behind ∧
      (∀ f ∈ ahead, keyAhead (s.key e) (s.key f) = true) ∧
      ∀ f ∈ behind, keyAhead (s.key f) (s.key e) = false := by
  induction es generalizing b with
  | nil => exact ⟨b, [], [], rfl, rfl, nofun, nofun⟩
  | cons g rest ih =>
    cases hg : keyAhead (s.key g) (s.key b) with
    | true =>
      obtain ⟨e, ahead, behind, hbest, hlist, ha, hb⟩ := ih g
      refine ⟨e, b :: ahead, behind, ?_, by rw [hlist, List.cons_append], fun f hf => ?_, hb⟩
      · simp only [List.foldl_cons, State.better, hg, if_true, hbest]
      rcases List.mem_cons.1 hf with rfl | hf
      · cases ahead with
        | nil => cases hlist; exact hg
        | cons a ahead =>
          cases hlist
          exact keyAhead_trans (ha g (List.mem_cons_self ..)) (keyAhead_asymm hg)
      · exact ha f hf
    | false =>
      obtain ⟨e, ahead, behind, hbest, hlist, ha, hb⟩ := ih b
      have hfold : (g :: rest).foldl s.better (some b) = some e := by
        simp only [List.foldl_cons, State.better, hg, Bool.false_eq_true, if_false, hbest]
      cases ahead with
      | nil =>
        cases hlist
        refine ⟨b, [], g :: rest, hfold, rfl, nofun, fun f hf => ?_⟩
        rcases List.mem_cons.1 hf with rfl | hf
        · exact hg
        · exact hb f hf
      | cons a ahead =>
        cases hlist
        have hbe := ha b (List.mem_cons_self ..)
        refine ⟨e, b :: g :: ahead, behind, hfold, rfl, fun f hf => ?_, hb⟩
        rcases List.mem_cons.1 hf with rfl | hf
        · exact hbe
        rcases List.mem_cons.1 hf with rfl | hf
        · exact keyAhead_trans hbe hg
        · exact ha f (List.mem_cons_of_mem _ hf)

/-- The first entry's mailbox has the lower id, or the two stand in one queue, the first not behind the other. -/
def State.servedFirst (s : State) (e f : EntryId) : Prop :=
  ∀ x y, s.entry e = some x → s.entry f = some y → x.mailbox ≤ y.mailbox ∧
    (x.mailbox = y.mailbox →
      (s.mbx x.mailbox).queue.idxOf e ≤ (s.mbx x.mailbox).queue.idxOf f)

theorem State.servedFirst_refl (s : State) (e : EntryId) : s.servedFirst e e := fun x y hx hy => by
  rw [hx] at hy
  cases hy
  exact ⟨le_rfl, fun _ => le_rfl⟩

/-- The places of a list without repetition rise along it. -/
theorem pairwise_idxOf {es : List EntryId} (h : es.Nodup) :
    es.Pairwise fun e f => es.idxOf e ≤ es.idxOf f :=
  List.pairwise_iff_getElem.2 fun i j hi hj hij => by
    rw [h.idxOf_getElem i hi, h.idxOf_getElem j hj]
    exact hij.le

/-- The candidates stand by mailbox id, and within a mailbox by place (R68). -/
theorem StoreCore.candidates_pairwise (h : StoreCore s) (p : PortId) :
    (s.candidates p).Pairwise s.servedFirst := by
  have hmem : ∀ {m e}, (e ∈ if (s.mbx m).owner = p ∧ (s.mbx m).state = .opened ∧
      (s.mbx m).held = false then s.queuedIn m else []) → e ∈ (s.mbx m).queue := fun {m e} he => by
    split at he
    · exact s.queuedIn_subset m e he
    · cases he
  refine List.pairwise_flatMap.2 ⟨fun m _ => ?_, (List.pairwise_lt_finRange 32).imp
    fun {m n} hmn e he f hf x y hx hy => ?_⟩
  · dsimp only
    split
    · refine ((pairwise_idxOf (h.bounded m).1).filter _).imp_of_mem
        fun {e f} he hf hle x y hx hy => ?_
      have hxm := (h.mem_queue hx m).1 (List.mem_filter.1 he).1
      have hym := (h.mem_queue hy m).1 (List.mem_filter.1 hf).1
      rw [← hxm, ← hym]
      exact ⟨le_rfl, fun _ => hle⟩
    · exact .nil
  · have hxm := (h.mem_queue hx m).1 (hmem he)
    have hyn := (h.mem_queue hy n).1 (hmem hf)
    rw [← hxm, ← hyn]
    exact ⟨hmn.le, fun heq => absurd heq hmn.ne⟩

/-- Where there is a candidate, the best one is chosen: none has a better key, and those with the same key are
served after it (R68). -/
theorem StoreCore.bestCandidate (h : StoreCore s) {c : EntryId} {cn : Entry}
    (hc : s.isCandidate p c cn) : ∃ e en, s.bestCandidate p = some e ∧ s.isCandidate p e en ∧
      ∀ f fn, s.isCandidate p f fn → keyAhead (s.key f) (s.key e) = false ∧
        (s.key f = s.key e → s.servedFirst e f) := by
  have hmem := h.mem_candidates_iff.2 ⟨cn, hc⟩
  have hpair := h.candidates_pairwise p
  have hall : ∀ f fn, s.isCandidate p f fn → f ∈ s.candidates p := fun f fn hf =>
    h.mem_candidates_iff.2 ⟨fn, hf⟩
  cases hl : s.candidates p with
  | nil => rw [hl] at hmem; cases hmem
  | cons b es =>
    obtain ⟨e, ahead, behind, hbest, hlist, ha, hb⟩ := foldl_better s es b
    rw [hl, hlist] at hpair hall
    obtain ⟨en, hen⟩ := h.mem_candidates_iff.1 (hl ▸ hlist ▸ List.mem_append_cons_self :
      e ∈ s.candidates p)
    refine ⟨e, en, ?_, hen, fun f fn hf => ?_⟩
    · rw [State.bestCandidate, hl]
      exact hbest
    rcases List.mem_append.1 (hall f fn hf) with hfa | hfb
    · refine ⟨keyAhead_asymm (ha f hfa), fun hkey => ?_⟩
      have := ha f hfa
      rw [hkey, keyAhead_irrefl] at this
      cases this
    rcases List.mem_cons.1 hfb with rfl | hfb
    · exact ⟨keyAhead_irrefl _, fun _ => s.servedFirst_refl f⟩
    · exact ⟨hb f hfb, fun _ =>
        (List.pairwise_cons.1 (List.pairwise_append.1 hpair).2.1).1 f hfb⟩

/-! ### The offer id (R70) -/

/-- The ids counted up from the next one on are distinct, so a list that holds `k` of them is as long. -/
theorem length_of_ids_taken {ids : List Byte} {next : Byte} {k : Nat} (hk : k ≤ 256)
    (h : ∀ j < k, next + BitVec.ofNat 8 j ∈ ids) : k ≤ ids.length := by
  have hn : ((List.range k).map fun j => next + BitVec.ofNat 8 j).Nodup := by
    refine List.Nodup.map_on (fun a ha b hb hab => ?_) List.nodup_range
    have ha := List.mem_range.1 ha
    have hb := List.mem_range.1 hb
    bv_omega
  have hsub : ((List.range k).map fun j => next + BitVec.ofNat 8 j) ⊆ ids := fun i hi => by
    obtain ⟨j, hj, rfl⟩ := List.mem_map.1 hi
    exact h j (List.mem_range.1 hj)
  simpa using (hn.subperm hsub).length_le

/-- The id chosen is the first from the next one on that is not in use (R70). -/
theorem freshOfferId_first {ids : List Byte} (h : ids.length < 4) (next : Byte) :
    ∃ k : Nat, k < 4 ∧ (∀ j < k, next + BitVec.ofNat 8 j ∈ ids) ∧
      next + BitVec.ofNat 8 k ∉ ids ∧ freshOfferId ids next = next + BitVec.ofNat 8 k := by
  unfold freshOfferId
  rw [List.find?_map]
  cases hf : (List.range 256).find? ((fun i => decide (i ∉ ids)) ∘ fun k => next + BitVec.ofNat 8 k) with
  | none =>
    have := length_of_ids_taken (ids := ids) (next := next) le_rfl fun j hj => by
      simpa using List.find?_eq_none.1 hf j (List.mem_range.2 hj)
    omega
  | some k =>
    obtain ⟨hk, hlt, htaken⟩ := List.find?_range_eq_some.1 hf
    have htaken : ∀ j < k, next + BitVec.ofNat 8 j ∈ ids := fun j hj => by
      simpa using htaken j hj
    have := length_of_ids_taken (List.mem_range.1 hlt).le htaken
    exact ⟨k, by omega, htaken, by simpa using hk, rfl⟩

/-! ### A selection -/

/-- A selection that is made offers the best candidate (R66, R69). -/
theorem select_some {e : EntryId} {en : Entry} {d : Descriptor} (hm : s.mayOffer p = true)
    (hb : s.bestCandidate p = some e) (he : s.entry e = some en) (hd : s.desc en.descriptor = some d)
    {id : Byte} (hid : freshOfferId (s.idsInFlight p) (s.port p).nextOfferId = id) :
    s.select p = (s.setEntry e (some
      { en with attempts := en.attempts + 1, offer := some ⟨id, .sending⟩ })).updPort p fun x =>
        { x with
          inFlight := x.inFlight ++ [e], nextOfferId := id + 1#8
          prepared := some ⟨e, s.offerFrame en d id⟩ } := by
  simp only [State.select, hm, if_true, hb, State.offerEntry, he, hd, hid]

/-- Without a candidate, or while another condition fails, none is made (R66). -/
theorem select_none (h : s.mayOffer p = true → ∀ e, e ∉ s.candidates p) : s.select p = s := by
  unfold State.select
  split
  · next hm =>
    split
    · next e hb => exact absurd (bestCandidate_mem hb) (h hm e)
    · rfl
  · rfl

/-- Settles O33: `foldl_better` gives the choice among the candidates, which stand by mailbox and place. -/
theorem selectionOffersTheBestEntry : Obligations.SelectionOffersTheBestEntry := by
  intro s p hr hl candidate free hcand hfree
  have hcand : candidate = s.isCandidate p := hcand
  have hc := hl.store.core
  rw [← mayOffer_eq_true_iff] at hfree
  rw [hcand, hfree, exec_selection, event_awake _ hr]
  refine ⟨fun hno => congrArg _ (select_none fun hm e he => ?_), fun c cn hm hcn => ?_⟩
  · obtain ⟨en, hen⟩ := hc.mem_candidates_iff.1 he
    exact hno ⟨hm, e, en, hen⟩
  obtain ⟨e, en, hbest, hen, hfirst⟩ := hc.bestCandidate hcn
  obtain ⟨d, hd, -⟩ := hc.message hen.1
  obtain ⟨hup, ⟨w, hw, hlen⟩, -⟩ := mayOffer_eq_true_iff.1 hm
  obtain ⟨-, w', hw', -, hw4, -⟩ := (hl.ports p).window hup
  have hids := hc.idsInFlight p
  have hids_length : (s.idsInFlight p).length = (s.port p).inFlight.length := by
    simpa using (congrArg List.length hids).symm
  have hroom : (s.idsInFlight p).length < 4 := by
    rw [hw] at hw'
    cases hw'
    omega
  obtain ⟨k, hk, htaken, hfresh, hid⟩ := freshOfferId_first hroom (s.port p).nextOfferId
  have htaken_iff : ∀ i, some i ∈ (s.port p).inFlight.map s.offerIdOf ↔ i ∈ s.idsInFlight p :=
    fun i => by rw [hids]; simp
  refine ⟨e, en, d, hen, hd, fun f fn hf => ?_, k, hk, fun j hj => (htaken_iff _).2 (htaken j hj),
    fun hin => hfresh ((htaken_iff _).1 hin), fun id hideq => ?_⟩
  · obtain ⟨hahead, hserved⟩ := hfirst f fn hf
    exact ⟨hahead, fun hkey => (hserved hkey en fn hen.1 hf.1).1,
      fun hkey => (hserved hkey en fn hen.1 hf.1).2⟩
  · exact congrArg _ (select_some hm hbest hen.1 hd (hid.trans hideq.symm))

end Sys2Proof.Machine
end

section
/-! SUPPORT. A frame on TXD bit time after bit time (R140, R160), and the acts that end it and free the
transmitter (R124, R160). -/

namespace Sys2Proof.Machine

variable {s : State} {p : PortId}

/-! ### Bit times of TXD as a function of the frame's bytes (R140) -/

/-- One bit time of TXD while the frame of these bytes is on the line. -/
def LineTransmitter.passIn (wire : List Byte) (r : LineTransmitter) : LineTransmitter :=
  r.pass (wire.drop r.begun)

/-- The levels that TXD has still to send of the frame of these bytes. -/
def LineTransmitter.levels (wire : List Byte) (r : LineTransmitter) : List Bool :=
  r.rest ++ (wire.drop r.begun).flatMap character

/-- A bit time sends the first level left. -/
theorem LineTransmitter.levels_passIn (wire : List Byte) (r : LineTransmitter) :
    (r.passIn wire).levels wire = (r.levels wire).tail := by
  obtain ⟨n, rest⟩ := r
  cases rest with
  | cons level rest => rfl
  | nil =>
    cases hd : wire.drop n with
    | nil => simp [passIn, levels, hd]
    | cons b bytes =>
      have : wire.drop (n + 1) = bytes := by rw [← List.tail_drop, hd, List.tail_cons]
      simp [passIn, levels, hd, this, character]

theorem LineTransmitter.levels_iterate (wire : List Byte) (n : Nat) (r : LineTransmitter) :
    ((passIn wire)^[n] r).levels wire = (r.levels wire).drop n := by
  induction n generalizing r with
  | zero => rfl
  | succ n ih => rw [Function.iterate_succ_apply, ih, levels_passIn, List.drop_tail]

/-- The bits left of the character under way pass before another is begun. -/
theorem LineTransmitter.passIn_rest (wire : List Byte) (n j : Nat) {rest : List Bool}
    (h : j ≤ rest.length) : (passIn wire)^[j] ⟨n, rest⟩ = ⟨n, rest.drop j⟩ := by
  induction j generalizing rest with
  | zero => rfl
  | succ j ih =>
    cases rest with
    | nil => cases h
    | cons level rest => exact ih (Nat.le_of_succ_le_succ h)

/-- Bits of character `k`, its start bit the first (R140). -/
theorem LineTransmitter.passIn_character {wire : List Byte} {k j : Nat} {b : Byte}
    (hb : wire[k]? = some b) (hj : j < 10) :
    (passIn wire)^[j + 1] ⟨k, []⟩ = ⟨k + 1, (character b).drop (j + 1)⟩ := by
  have hfirst : passIn wire ⟨k, []⟩ = ⟨k + 1, (character b).tail⟩ := by
    obtain ⟨hk, rfl⟩ := List.getElem?_eq_some_iff.1 hb
    rw [passIn, List.drop_eq_getElem_cons hk]
    rfl
  have hrest : j ≤ (character b).tail.length := Nat.le_of_lt_succ hj
  rw [Function.iterate_succ_apply, hfirst, passIn_rest wire (k + 1) j hrest, List.drop_tail]

/-- Ten bit times a character (R140). -/
theorem LineTransmitter.passIn_characters {wire : List Byte} {k : Nat} (hk : k ≤ wire.length) :
    (passIn wire)^[10 * k] ⟨0, []⟩ = ⟨k, []⟩ := by
  induction k with
  | zero => rfl
  | succ k ih =>
    rw [Nat.mul_succ, Nat.add_comm, Function.iterate_add_apply, ih (Nat.le_of_succ_le hk),
      passIn_character (j := 9) (List.getElem?_eq_getElem hk) (by decide),
      List.drop_of_length_le (character_length _).le]

/-- TXD after `j` bits of character `k`. -/
theorem LineTransmitter.passIn_bits {wire : List Byte} {k j : Nat} {b : Byte}
    (hb : wire[k]? = some b) (hj : j < 10) : (passIn wire)^[10 * k + j] ⟨0, []⟩ =
      if j = 0 then ⟨k, []⟩ else ⟨k + 1, (character b).drop j⟩ := by
  obtain ⟨hk, -⟩ := List.getElem?_eq_some_iff.1 hb
  rw [Nat.add_comm, Function.iterate_add_apply, passIn_characters hk.le]
  cases j with
  | zero => rfl
  | succ j => exact passIn_character hb (Nat.lt_of_succ_lt hj)

theorem length_flatMap_character (bytes : List Byte) :
    (bytes.flatMap character).length = 10 * bytes.length := by
  simp [List.length_flatMap, Nat.mul_comm]

/-- SYNC, LEN, KIND, SEQ, the body and the two CHECK bytes (R142). -/
theorem Frame.wire_length (f : Frame) : f.wire.length = f.body.length + 6 := by
  simp [Frame.wire, wireFrame, checkedBytes, bytesOfHalf]

/-! ### Bit times of a port (R140, R160) -/

/-- The state with port `p`'s TXD put at a place of its frame. -/
def State.atBit (s : State) (p : PortId) (r : LineTransmitter) : State :=
  s.updPort p fun x => { x with txd := r }

theorem State.atBit_self (s : State) (p : PortId) : s.atBit p (s.port p).txd = s :=
  s.updPort_eq_self p _ rfl

section
variable {f : Frame} (htx : (s.port p).tx = .sending f)
include htx

theorem txLine_atBit (r : LineTransmitter) : (s.atBit p r).txLine p = f.wire.drop r.begun := by
  have : ((s.atBit p r).port p).tx = .sending f := by rw [State.atBit, State.port_updPort_self, htx]
  rw [txLine_sending this, State.atBit, State.port_updPort_self]

theorem txLevels_atBit (r : LineTransmitter) : (s.atBit p r).txLevels p = r.levels f.wire := by
  rw [State.txLevels, txLine_atBit htx, State.atBit, State.port_updPort_self]
  rfl

/-- A bit time moves TXD alone. -/
theorem atBit_pass (r : LineTransmitter) : s.atBit p (r.passIn f.wire) =
    (s.atBit p r).updPort p fun x => { x with txd := x.txd.pass ((s.atBit p r).txLine p) } := by
  rw [txLine_atBit htx, State.atBit, State.atBit, State.updPort_updPort]
  rfl

/-- While levels are left after them, bit times move TXD and nothing else. -/
theorem passLevels_more (hr : s.inReset = false) {n : Nat} {r : LineTransmitter}
    (hn : n < (r.levels f.wire).length) :
    passLevels p n (s.atBit p r) = .next (s.atBit p ((LineTransmitter.passIn f.wire)^[n] r)) := by
  induction n generalizing r with
  | zero => rfl
  | succ n ih =>
    have hlen : n < ((r.passIn f.wire).levels f.wire).length := by
      rw [LineTransmitter.levels_passIn, List.length_tail]
      omega
    have hpass : passLevel p (s.atBit p r) = .next (s.atBit p (r.passIn f.wire)) :=
      passLevel_more (s := s.atBit p r) p hr (atBit_pass htx r) (by
        rw [txLevels_atBit htx]
        exact List.ne_nil_of_length_pos (Nat.zero_lt_of_lt hlen))
    simp only [passLevels, hpass]
    exact ih hlen

/-- With the last level the act of the last byte is taken (R160). -/
theorem passLevels_last (hr : s.inReset = false) {n : Nat} {r : LineTransmitter}
    (hn : (r.levels f.wire).length = n + 1) :
    passLevels p (n + 1) (s.atBit p r) =
      execFrameLastByteSent p (s.atBit p ((LineTransmitter.passIn f.wire)^[n + 1] r)) := by
  have hone : ∀ t, passLevels p 1 t = passLevel p t := fun t => by
    simp only [passLevels]
    cases passLevel p t <;> rfl
  rw [passLevels_add, passLevels_more htx hr (hn ▸ Nat.lt_succ_self n)]
  simp only [hone, Function.iterate_succ_apply']
  refine passLevel_last (s := s.atBit p _) p hr (atBit_pass htx _) ?_
  rw [txLevels_atBit htx, LineTransmitter.levels_passIn, LineTransmitter.levels_iterate,
    List.tail_drop, ← hn, List.drop_length]

/-- TXD after any bit times sends what it would have sent then. -/
theorem txLevel_atBit (n i : Nat) (r : LineTransmitter) :
    (s.atBit p ((LineTransmitter.passIn f.wire)^[n] r)).txLevel p i = (s.atBit p r).txLevel p (n + i) := by
  simp only [State.txLevel, txLevels_atBit htx, LineTransmitter.levels_iterate,
    List.getD_eq_getElem?_getD, List.getElem?_drop]

end

/-- After a stop TXD carries the rest of the character under way and is high from there on (R160). -/
theorem txLevel_stopped (s : State) (p : PortId) (r : LineTransmitter) (i : Nat) :
    ((s.atBit p r).updPort p fun x => { x with tx := .stopped }).txLevel p i =
      r.rest.getD i true := by
  generalize ht : ((s.atBit p r).updPort p fun x => { x with tx := .stopped }) = t
  have hport : t.port p = { s.port p with txd := r, tx := .stopped } := by
    rw [← ht, State.port_updPort_self, State.atBit, State.port_updPort_self]
  have hquiet : ∀ f, (t.port p).tx ≠ .sending f := fun f hf => by
    rw [hport] at hf
    cases hf
  rw [txLevel_quiet hquiet, hport]

/-! ### The acts that free the transmitter (R124, R160) -/

theorem exec_arbiterBeginFrame_awake (hr : s.inReset = false) :
    exec (.arbiterBeginFrame p) s = .next (s.arbitrate p) := by
  rw [exec_arbiterBeginFrame, event_awake _ hr]

/-- The end of the frame on the line leaves `u`, and the arbiter decides in the same act (R160). -/
theorem exec_lastByte {f : Frame} {u : State} (hr : s.inReset = false)
    (htx : (s.port p).tx = .sending f) (hu : s.endFrame p f = u) (hur : u.inReset = false) :
    ∃ t, exec (.frameLastByteSent p) s = .next t ∧ exec (.arbiterBeginFrame p) u = .next t := by
  refine ⟨u.arbitrate p, ?_, ?_⟩
  · rw [exec_frameLastByteSent, event_awake _ hr]
    simp only [State.lastByteSent, htx, hu]
  · exact exec_arbiterBeginFrame_awake hur

/-- The end of the idle after a stopped frame frees the transmitter, and the arbiter decides (R124). -/
theorem exec_idleEnd (hr : s.inReset = false) (htx : (s.port p).tx = .stopped) :
    ∃ t, exec (.stoppedFrameIdleEnd p) s = .next t ∧
      exec (.arbiterBeginFrame p)
        (s.updPort p fun x => { x with tx := .idle, txd := ⟨0, []⟩ }) = .next t := by
  refine ⟨(s.updPort p (·.freeTransmitter)).arbitrate p, ?_, ?_⟩
  · rw [exec_stoppedFrameIdleEnd, event_awake _ hr, State.stoppedIdleEnded, if_pos htx]
  · exact exec_arbiterBeginFrame_awake (s := s.updPort p (·.freeTransmitter)) hr

/-- With no frame on the line, or after a stop, there is no last byte (log 5). -/
theorem lastByteSent_quiet (h : ∀ f, (s.port p).tx ≠ .sending f) : s.lastByteSent p = s := by
  unfold State.lastByteSent
  split
  · next f hf => exact absurd hf (h f)
  · rfl
  · rfl

/-- The last byte of a REPLY empties its slot (R156, R160). -/
theorem endFrame_reply (k q : Byte) (st : Status) (res : Results) :
    s.endFrame p (.reply k q st res) = s.updPort p fun x =>
      { x with
        tx := .idle, txd := ⟨0, []⟩
        replies := x.replies.filter fun r => decide (r.state ≠ .sending) } := by
  have : (fun r : Reply => !r.isSending) = fun r => decide (r.state ≠ .sending) := by
    funext r
    rw [Reply.isSending, decide_not]
  simp only [State.endFrame, this, Port.freeTransmitter]

/-- The last byte of a HELLO, a REPORT or an EVENT frees the transmitter alone (R160). -/
theorem endFrame_other {f : Frame} (hr : f.kind ≠ Kind.reply) (ho : f.kind ≠ Kind.offer) :
    s.endFrame p f = s.updPort p fun x => { x with tx := .idle, txd := ⟨0, []⟩ } := by
  cases f with
  | reply => exact absurd rfl hr
  | offer => exact absurd rfl ho
  | hello | report | event => rfl

/-- The last byte of an OFFER that CLEAR has freed (R86). -/
theorem endFrame_cleared (o : OfferFrame) (h : (s.port p).prepared = none) :
    s.endFrame p (.offer o) = s.updPort p fun x => { x with tx := .idle, txd := ⟨0, []⟩ } := by
  simp only [State.endFrame, h, Port.freeTransmitter]

/-- The last byte of an OFFER: its entry is AWAITING (R72, R73). -/
theorem endFrame_offer (o : OfferFrame) {pr : Prepared} {en : Entry} {id : Byte} {ph : Phase}
    (h : (s.port p).prepared = some pr) (he : s.entry pr.entry = some en)
    (hoff : en.offer = some ⟨id, ph⟩) :
    s.endFrame p (.offer o) = (s.setEntry pr.entry (some
      { en with
        offer := some ⟨id, .awaiting (s.now + (s.mbx en.mailbox).ackWindow)⟩ })).updPort p fun x =>
          { x with tx := .idle, txd := ⟨0, []⟩, prepared := none } := by
  simp only [State.endFrame, h, State.offerSent, State.updEntry, he, hoff, Option.map_some,
    Port.freeTransmitter]

/-- A frame on the line from its first bit to its last (R140, R160). -/
theorem frame_passes {f : Frame} (hr : s.inReset = false) (htx : (s.port p).tx = .sending f)
    (htxd : (s.port p).txd = ⟨0, []⟩) :
    (∀ k b j, f.wire[k]? = some b → j < 10 →
      ∃ t, passLevels p (10 * k + j) s = .next t ∧
        t = s.atBit p (if j = 0 then ⟨k, []⟩ else ⟨k + 1, (character b).drop j⟩) ∧
        (∀ i, t.txLevel p i = s.txLevel p (10 * k + j + i)) ∧
        ∀ i, (t.updPort p fun x => { x with tx := .stopped }).txLevel p i =
          if 0 < j ∧ i < 10 - j then s.txLevel p (10 * k + j + i) else true) ∧
    passLevels p (10 * (f.body.length + 6)) s =
      exec (.frameLastByteSent p) (s.atBit p ⟨f.body.length + 6, []⟩) := by
  have hs : s.atBit p ⟨0, []⟩ = s := htxd ▸ s.atBit_self p
  have hlevels : (LineTransmitter.levels f.wire ⟨0, []⟩).length = 10 * f.wire.length :=
    length_flatMap_character _
  refine ⟨fun k b j hb hj => ?_, ?_⟩
  · obtain ⟨hk, -⟩ := List.getElem?_eq_some_iff.1 hb
    have hpass := passLevels_more htx hr (n := 10 * k + j) (r := ⟨0, []⟩) (by omega)
    have hlevel := fun i => txLevel_atBit htx (10 * k + j) i ⟨0, []⟩
    rw [LineTransmitter.passIn_bits hb hj] at hpass hlevel
    rw [hs] at hpass hlevel
    refine ⟨_, hpass, rfl, hlevel, fun i => ?_⟩
    rw [txLevel_stopped, ← hlevel, State.txLevel, txLevels_atBit htx]
    rcases Nat.eq_zero_or_pos j with rfl | hpos
    · rfl
    rw [if_neg hpos.ne', LineTransmitter.levels]
    have hrest : ((character b).drop j).length = 10 - j := by
      rw [List.length_drop, character_length]
    split
    · next hi => exact (List.getD_append _ _ _ _ (hrest ▸ hi.2)).symm
    · next hi =>
      refine List.getD_eq_default _ _ ?_
      show ((character b).drop j).length ≤ i
      omega
  · obtain ⟨n, hn⟩ : ∃ n, 10 * f.wire.length = n + 1 := ⟨10 * f.wire.length - 1, by
      rw [f.wire_length]
      omega⟩
    have hlast := passLevels_last htx hr (hlevels.trans hn)
    rwa [← hn, LineTransmitter.passIn_characters le_rfl, hs, f.wire_length] at hlast

/-- Settles O51: `frame_passes` follows the frame's levels to the last one, and each of the acts that free the
transmitter is the arbiter's decision on the state that `State.endFrame` leaves. -/
theorem lastByteEndsTheFrame : Obligations.LastByteEndsTheFrame := by
  intro s p hr
  refine ⟨fun f htx htxd => frame_passes hr htx htxd, fun h => ?_, fun h => ?_,
    fun htx => exec_idleEnd hr htx, fun k q st res htx => exec_lastByte hr htx (endFrame_reply k q st res) hr,
    fun f htx hk ho => exec_lastByte hr htx (endFrame_other hk ho) hr,
    fun o htx hpr => exec_lastByte hr htx (endFrame_cleared o hpr) hr,
    fun o pr en id ph htx hpr he hoff => exec_lastByte hr htx (endFrame_offer o hpr he hoff) hr⟩
  · rw [exec_frameLastByteSent, event_awake _ hr, lastByteSent_quiet h]
  · rw [exec_stoppedFrameIdleEnd, event_awake _ hr, State.stoppedIdleEnded, if_neg h]

end Sys2Proof.Machine
end

section
/-! SUPPORT. The summary outcome of a tally (R90, R91, R100). -/

namespace Sys2Proof.Machine

variable (t : Tally)

theorem EntryOutcome.mem_inOrder (o : EntryOutcome) : o ∈ inOrder := by cases o <;> decide

/-- The codes number the outcomes in the order of R90. -/
theorem EntryOutcome.idxOf_inOrder (o : EntryOutcome) : inOrder.idxOf o = o.code.toNat := by
  cases o <;> rfl

/-- The summary is the library's first largest element of the outcomes in their order. -/
theorem Tally.summary_mem_argmax : t.summary ∈ EntryOutcome.inOrder.argmax t.count := by
  have hsome : ∀ best o, List.argAux (fun b c => t.count c < t.count b) (some best) o =
      some (if t.count best < t.count o then o else best) := fun best o => (apply_ite some _ _ _).symm
  rw [summary, EntryOutcome.inOrder, List.foldl_cons, if_neg (Nat.lt_irrefl _)]
  exact List.foldl_hom some hsome

theorem Tally.count_le_summary (o : EntryOutcome) : t.count o ≤ t.count t.summary :=
  List.le_of_mem_argmax o.mem_inOrder t.summary_mem_argmax

/-- No earlier outcome shares the largest count. -/
theorem Tally.count_lt_summary {o : EntryOutcome} (h : o.code.toNat < t.summary.code.toNat) :
    t.count o < t.count t.summary := by
  by_contra hle
  have := List.index_of_argmax t.summary_mem_argmax o.mem_inOrder (Nat.le_of_not_lt hle)
  rw [EntryOutcome.idxOf_inOrder, EntryOutcome.idxOf_inOrder] at this
  omega

theorem Tally.sum_eq : t.sum = (EntryOutcome.inOrder.map t.count).sum := by
  simp only [sum, EntryOutcome.inOrder, List.map_cons, List.map_nil, List.sum_cons, List.sum_nil,
    count, Nat.add_zero, Nat.add_assoc]

/-- The counts of two outcomes are within the sum. -/
theorem Tally.count_add_count_le {o q : EntryOutcome} (h : q ≠ o) : t.count o + t.count q ≤ t.sum := by
  have hq : t.count q ∈ (EntryOutcome.inOrder.erase o).map t.count :=
    List.mem_map_of_mem ((List.mem_erase_of_ne h).2 q.mem_inOrder)
  rw [t.sum_eq, ← List.sum_map_erase t.count o.mem_inOrder]
  exact Nat.add_le_add_left (List.le_sum_of_mem hq) _

/-- Settles O38: the summary is the first largest element of the outcomes in their order, and an outcome that
all targets have leaves every other count at 0. -/
theorem summaryIsTheLargestCount : Obligations.SummaryIsTheLargestCount := by
  refine fun t => ⟨t.count_le_summary, fun o h => t.count_lt_summary h, fun o hpos hall => ?_⟩
  by_contra hne
  have hsum := t.count_add_count_le hne
  have hlargest := t.count_le_summary o
  omega

end Sys2Proof.Machine
end

section
/-! SUPPORT. The part's frames byte by byte (R142, R149, R152 to R155), the bits of a frame on TXD (R140), and
the characters of RXD (R141). -/

namespace Sys2Proof.Machine

variable {s : State} {p : PortId}

/-! ### Numbers high byte first (R149) -/

theorem bytesOfHalf_eq (h : Half) : bytesOfHalf h = [byteOf (h.toNat / 256), byteOf (h.toNat % 256)] := by
  have hhi : hiByte h = byteOf (h.toNat / 256) := by
    refine BitVec.eq_of_toNat_eq ?_
    simp [byteOf, Nat.shiftRight_eq_div_pow]
  have hlo : loByte h = byteOf (h.toNat % 256) := by
    refine BitVec.eq_of_toNat_eq ?_
    simp [byteOf]
  rw [bytesOfHalf, hhi, hlo]

theorem bytesOfWord_eq (w : BitVec 32) :
    bytesOfWord w = halfOf (w.toNat / 65536) ++ halfOf (w.toNat % 65536) := by
  have hhi : w.extractLsb' 16 16 = BitVec.ofNat 16 (w.toNat / 65536) := by
    refine BitVec.eq_of_toNat_eq ?_
    simp [Nat.shiftRight_eq_div_pow]
  have hlo : w.extractLsb' 0 16 = BitVec.ofNat 16 (w.toNat % 65536) := by
    refine BitVec.eq_of_toNat_eq ?_
    simp
  rw [bytesOfWord, hhi, hlo, halfOf, halfOf]

/-! ### A frame on TXD (R140) -/

/-- The characters stand back to back, ten bit times each. -/
theorem getElem?_flatMap_character {bytes : List Byte} {k j : Nat} {b : Byte}
    (hb : bytes[k]? = some b) (hj : j < 10) :
    (bytes.flatMap character)[10 * k + j]? = (character b)[j]? := by
  induction bytes generalizing k with
  | nil => cases hb
  | cons c bytes ih =>
    rw [List.flatMap_cons]
    cases k with
    | zero =>
      obtain rfl : c = b := Option.some.inj hb
      rw [Nat.mul_zero, Nat.zero_add, List.getElem?_append_left hj]
    | succ k =>
      rw [List.getElem?_append_right (by rw [character_length]; omega), ← ih hb, character_length]
      congr 1
      omega

section
variable {f : Frame} (htx : (s.port p).tx = .sending f) (htxd : (s.port p).txd = ⟨0, []⟩)
include htx htxd

/-- A frame just begun has the characters of all its bytes to send. -/
theorem txLevels_begun : s.txLevels p = f.wire.flatMap character := by
  rw [State.txLevels, txLine_sending htx, htxd, List.drop_zero, List.nil_append]

theorem txLevel_character {k j : Nat} {b : Byte} (hb : f.wire[k]? = some b) (hj : j < 10) :
    some (s.txLevel p (10 * k + j)) = (character b)[j]? := by
  have hbit := getElem?_flatMap_character hb hj
  have hsome : (character b)[j]? = some (character b)[j] := List.getElem?_eq_getElem hj
  rw [State.txLevel, txLevels_begun htx htxd, List.getD_eq_getElem?_getD, hbit, hsome,
    Option.getD_some]

theorem txLevel_afterFrame {k : Nat} (hk : 10 * (f.body.length + 6) ≤ k) : s.txLevel p k = true := by
  rw [State.txLevel, txLevels_begun htx htxd]
  refine List.getD_eq_default _ _ ?_
  rwa [length_flatMap_character, f.wire_length]

end

/-! ### Levels of RXD (R141) -/

theorem exec_byteTaken (p : PortId) (b : Byte) (s : State) :
    exec (.byteTaken p b) s = execByteTaken p b s := rfl

theorem takeLevels_singleton (p : PortId) (level : Bool) (s : State) :
    takeLevels p [level] s = takeLevel p level s := by
  simp only [takeLevels]
  cases takeLevel p level s <;> rfl

/-- The state with port `p`'s receiver of the line put at a place of a character. -/
def State.atLine (s : State) (p : PortId) (r : LineReceiver) : State :=
  s.updPort p fun x => { x with line := r }

theorem State.atLine_self {r : LineReceiver} (h : (s.port p).line = r) : s.atLine p r = s :=
  s.updPort_eq_self p _ (h ▸ rfl)

theorem State.atLine_line (s : State) (p : PortId) (r : LineReceiver) :
    ((s.atLine p r).port p).line = r := by
  rw [State.atLine, State.port_updPort_self]

@[simp] theorem State.atLine_atLine (s : State) (p : PortId) (r q : LineReceiver) :
    (s.atLine p r).atLine p q = s.atLine p q :=
  s.updPort_updPort p _ _

section
variable (hr : s.inReset = false)
include hr

/-- A bit time that is no stop bit moves the receiver of the line alone. -/
theorem takeLevel_noByte {r q : LineReceiver} {level : Bool} (h : r.sample level = (q, none)) :
    takeLevel p level (s.atLine p r) = .next (s.atLine p q) := by
  rw [takeLevel_awake (s := s.atLine p r) p level hr, State.atLine_line, h]
  exact congrArg _ (s.atLine_atLine p r q)

/-- A stop bit takes the byte. -/
theorem takeLevel_byte {r q : LineReceiver} {level : Bool} {b : Byte}
    (h : r.sample level = (q, some b)) :
    takeLevel p level (s.atLine p r) = execByteTaken p b (s.atLine p q) := by
  rw [takeLevel_awake (s := s.atLine p r) p level hr, State.atLine_line, h]
  exact congrArg (execByteTaken p b) (s.atLine_atLine p r q)

/-- A level that leaves the receiver of the line where it is does nothing, however long it stays. -/
theorem takeLevels_steady {r : LineReceiver} {level : Bool} (h : r.sample level = (r, none)) (k : Nat) :
    takeLevels p (List.replicate k level) (s.atLine p r) = .next (s.atLine p r) := by
  induction k with
  | zero => rfl
  | succ k ih => simp only [List.replicate_succ, takeLevels, takeLevel_noByte hr h, ih]

/-- The levels of up to eight bit times after a start bit are kept as data bits. -/
theorem takeLevels_dataBits {kept bits : List Bool} (h : kept.length + bits.length ≤ 8) :
    takeLevels p bits (s.atLine p (.character kept)) =
      .next (s.atLine p (.character (kept ++ bits))) := by
  induction bits generalizing kept with
  | nil => rw [List.append_nil]; rfl
  | cons level bits ih =>
    rw [List.length_cons] at h
    have hsample : LineReceiver.sample (.character kept) level = (.character (kept ++ [level]), none) :=
      if_pos (by omega)
    simp only [takeLevels, takeLevel_noByte hr hsample]
    rw [ih (by rw [List.length_append, List.length_singleton]; omega), List.append_assoc,
      List.singleton_append]

/-- A character on the idle line takes its byte, and a low stop bit holds off the next start bit. -/
theorem takeLevels_character (hidle : (s.port p).line = .idle) (b : Byte) (stop : Bool) :
    takeLevels p (false :: (dataBits b ++ [stop])) s =
      exec (.byteTaken p b) (s.atLine p (if stop then .idle else .holdOff)) := by
  have hstart : takeLevel p false s = .next (s.atLine p (.character [])) := by
    conv_lhs => rw [← State.atLine_self hidle]
    exact takeLevel_noByte hr rfl
  have hdata := takeLevels_dataBits (p := p) hr (kept := []) (bits := dataBits b) (Nat.le_refl 8)
  have hstop : LineReceiver.sample (.character (dataBits b)) stop =
      (if stop then .idle else .holdOff, some b) := by
    have hfull : ¬(dataBits b).length < 8 := Nat.lt_irrefl 8
    rw [LineReceiver.sample, if_neg hfull, byteOfBits_dataBits]
  simp only [takeLevels, hstart]
  rw [takeLevels_append, hdata, exec_byteTaken]
  exact (takeLevels_singleton p stop _).trans (takeLevel_byte hr hstop)

end

/-- Settles O46: with numbers read high byte first each frame and field is the model's own row; on TXD a frame
just begun has its characters to send, and on RXD the receiver of the line is followed level by level. -/
theorem framesAndCharactersOnTheLine : Obligations.FramesAndCharactersOnTheLine := by
  intro n two four yes set hn htwo hfour hyes hset num hnum
  obtain rfl : n = byteOf := hn
  obtain rfl : two = bytesOfHalf := htwo.trans (funext fun h => (bytesOfHalf_eq h).symm)
  obtain rfl : four = bytesOfWord := hfour.trans (funext fun w => (bytesOfWord_eq w).symm)
  obtain rfl : yes = byteOfBool := hyes
  obtain rfl : set = eventByte := hset.trans (funext fun e => BitVec.ofNat_toNat 8 e)
  obtain rfl : num = halfOf := hnum
  -- the frames' bodies
  refine ⟨fun f => ⟨_, rfl, rfl⟩, fun h => ⟨rfl, rfl, ?_⟩, fun _ _ _ _ => ⟨rfl, rfl, rfl⟩,
    fun _ => ⟨rfl, rfl, rfl⟩, fun _ => ⟨rfl, rfl, rfl⟩, fun _ => ⟨rfl, rfl, rfl⟩, ?_⟩
  · have hrate : h.rate.setWidth 8 = byteOf h.rate.toNat := (BitVec.ofNat_toNat 8 h.rate).symm
    rw [Frame.body, hrate]
    rfl
  -- the results of a REPLY, then the codes and the character of a byte
  refine ⟨rfl, fun _ _ _ => rfl, fun _ => rfl, fun _ _ _ _ _ => rfl, fun _ _ => ⟨rfl, rfl⟩,
    fun _ _ _ => rfl, fun _ => rfl, fun _ _ _ => ⟨rfl, rfl, rfl⟩, fun _ _ => ⟨rfl, rfl⟩, fun _ => rfl,
    fun _ => rfl, fun _ _ => ⟨rfl, rfl⟩, fun g ms => ?_, rfl, rfl, rfl, rfl, rfl, rfl, fun _ => rfl,
    fun s p => ?_⟩
  · rw [Nat.add_comm 32]
    exact ⟨rfl, rfl, rfl⟩
  · refine ⟨fun f htx htxd => ⟨fun k b j => txLevel_character htx htxd,
      fun k => txLevel_afterFrame htx htxd⟩, fun hquiet hrest k => by rw [txLevel_quiet hquiet, hrest]; rfl,
      fun b k u hr hu => ?_⟩
    obtain rfl : u = s.atLine p .holdOff := hu
    refine ⟨fun hidle => ⟨?_, ?_, takeLevels_character hr hidle b false,
      takeLevels_character hr hidle 0#8 false⟩, takeLevels_steady hr rfl k, ?_⟩
    · have := takeLevels_steady (p := p) hr (r := .idle) (level := true) rfl k
      rwa [State.atLine_self hidle] at this
    · have := takeLevels_character hr hidle b true
      rwa [if_pos rfl, State.atLine_self hidle] at this
    · rw [takeLevels_append, takeLevels_steady hr rfl k]
      exact (takeLevels_singleton p true _).trans (takeLevel_noByte hr rfl)

end Sys2Proof.Machine
end

section
/-! SUPPORT. The group law over every step (R107, R108, R116, R117), without the laws of ports, mode and store. -/

namespace Sys2Proof.Machine

variable {s t : State}

theorem Steady.groupsLawful (h : Steady s t) (hl : s.groupsLawful) : t.groupsLawful :=
  h.tables.groupsLawful hl

/-- A test end keeps the group law: the teardown of a test fault empties every list with the mailboxes, and
otherwise groups and mailboxes are as they were (R177, R181). -/
theorem groupsLawful_testEnd (hl : s.groupsLawful) (failed : List BufferId) :
    ((s.endTest failed).afterTest s.startUp).groupsLawful := by
  have ht := tested_endTest s failed
  have hend : (s.endTest failed).groupsLawful := groupsLawful_congr hl ht.groups ht.mailboxes
  unfold State.afterTest
  split
  · exact groupsLawful_congr hend rfl rfl
  · split
    · exact groupsLawful_of_empty fun g => congrArg Group.members (Table.get_map _ _ g)
    · exact groupsLawful_congr hend rfl rfl

/-- An outcome keeps the group law. -/
theorem Outcome.groupsLawful (h : Outcome s t) (hl : s.groupsLawful) : t.groupsLawful := by
  induction h with
  | same => exact hl
  | powerOn s psel rate => exact groupsLawful_congr (lawful_powerOnValues psel rate).groups rfl rfl
  | enterReset s => exact groupsLawful_congr (lawful_powerOnValues 7#3 0#2).groups rfl rfl
  | reach s t n _ ih => exact ih (groupsLawful_congr hl rfl rfl)
  | receive s t p r _ _ ih => exact ih (groupsLawful_congr hl rfl rfl)
  | drop s p => exact groupsLawful_updPort hl p _
  | answer s t p kind seq _ h => exact h.groupsLawful hl
  | stray s p => exact groupsLawful_updPort hl p _
  | resolve s p e o => exact (steady_thenClose s e (steady_resolve s e o)).groupsLawful hl
  | unaccepted s p e => exact (steady_thenClose s e (steady_nonAccepting s e true)).groupsLawful hl
  | select s p => exact (steady_select s p).groupsLawful hl
  | expire s i =>
    exact ((steady_resolveAll s _ .expired).trans (steady_updDesc _ i _)).groupsLawful hl
  | dormancy s m => exact (steady_freeDormant s m).groupsLawful hl
  | breakStart s p => exact groupsLawful_breakStarts hl p
  | breakEnd s p => exact groupsLawful_breakEnds hl p
  | discard s p => exact (steady_discardFrame s p).groupsLawful hl
  | arbitrate s p => exact (steady_arbitrate s p).groupsLawful hl
  | lastByte s p => exact (steady_lastByteSent s p).groupsLawful hl
  | idleEnd s p => exact (steady_stoppedIdleEnded s p).groupsLawful hl
  | testEnd s failed => exact groupsLawful_testEnd hl failed

/-- Settles O55: a step is an outcome of the command at the front, and every outcome keeps the group law; a
steady act takes a mailbox that closes out of every list, and GROUP_ADD is the one act that adds to a list. -/
theorem stepKeepsTheGroupLaw : Obligations.StepKeepsTheGroupLaw := fun s _ hl hx => by
  obtain ⟨rest, h⟩ := outcome_of_step hx
  exact h.groupsLawful (groupsLawful_congr hl rfl rfl)

end Sys2Proof.Machine
end

section
/-! SUPPORT. The group commands (R110 to R115). -/

namespace Sys2Proof.Machine

variable {s t : State} {p : PortId} {kind seq gid id policy : Byte} {g : GroupId} {m : MailboxId}

/-! ### A principal command on the principal's port (R120) -/

section
variable {c : Instr} {own : State → State × ReplyState}

theorem exec_principal_refused {st : Status} (hs : Serves s p) (hp : (s.port p).principal = true)
    (hc : exec c s = event (fun s => s.takeCommand p kind seq (ofPrincipal p own)) s)
    (ho : own s = refuse s st) : exec c s = .next (s.replied p kind seq st .none) :=
  exec_refused hs hc ((ofPrincipal_yes hp).trans ho)

theorem exec_principal_answered {res : Results} (hs : Serves s p) (hp : (s.port p).principal = true)
    (hc : exec c s = event (fun s => s.takeCommand p kind seq (ofPrincipal p own)) s)
    (ho : own s = answer t res) : exec c s = .next (t.replied p kind seq .ok res) :=
  exec_answered hs hc ((ofPrincipal_yes hp).trans ho)

end

/-! ### The fields and the result (R107, R110, R149) -/

theorem groupId_range (h : gid.toNat < 32 ∨ 39 < gid.toNat) : groupId gid = none :=
  dif_neg (by omega)

theorem policyOf_eq {pol : Policy}
    (h : (policy = 0#8 ∧ pol = .strict) ∨ (policy = 1#8 ∧ pol = .lenient)) :
    policyOf policy = some pol := by
  rcases h with ⟨rfl, rfl⟩ | ⟨rfl, rfl⟩ <;> rfl

theorem policyOf_range (h : 1 < policy.toNat) : policyOf policy = none := by
  rw [policyOf, if_neg, if_neg] <;> rintro rfl <;> exact absurd h (by decide)

/-- Two updates that agree on a group's record are one update. -/
theorem State.updGrp_congr {f k : Group → Group} (h : f (s.grp g) = k (s.grp g)) :
    s.updGrp g f = s.updGrp g k := by
  show { s with groups := s.groups.set g (f (s.grp g)) } =
    { s with groups := s.groups.set g (k (s.grp g)) }
  rw [h]

/-- The group result shows the group as the command leaves it (R110). -/
theorem groupAnswer_updGrp (f : Group → Group) :
    (s.updGrp g f).groupAnswer g =
      answer (s.updGrp g f) (.group g (f (s.grp g)).policy (f (s.grp g)).members) := by
  rw [State.groupAnswer, State.grp_updGrp_self]

/-! ### The checks of each command in their order (R111 to R115) -/

theorem groupDefineOwn_range (h : gid.toNat < 32 ∨ 39 < gid.toNat ∨ 1 < policy.toNat) :
    s.groupDefineOwn gid policy = refuse s .range := by
  rcases or_assoc.2 h with hg | hpol
  · simp only [State.groupDefineOwn, groupId_range hg]
  · simp only [State.groupDefineOwn, policyOf_range hpol]
    cases groupId gid <;> rfl

theorem groupAddOwn_range (h : gid.toNat < 32 ∨ 39 < gid.toNat ∨ 31 < id.toNat) :
    s.groupAddOwn gid id = refuse s .range := by
  rcases or_assoc.2 h with hg | hid
  · simp only [State.groupAddOwn, groupId_range hg]
  · simp only [State.groupAddOwn, mailboxId_none hid]
    cases groupId gid <;> rfl

theorem groupRemoveOwn_range (h : gid.toNat < 32 ∨ 39 < gid.toNat ∨ 31 < id.toNat) :
    s.groupRemoveOwn gid id = refuse s .range := by
  rcases or_assoc.2 h with hg | hid
  · simp only [State.groupRemoveOwn, groupId_range hg]
  · simp only [State.groupRemoveOwn, mailboxId_none hid]
    cases groupId gid <;> rfl

theorem groupDeleteOwn_range (h : gid.toNat < 32 ∨ 39 < gid.toNat) :
    s.groupDeleteOwn gid = refuse s .range := by
  simp only [State.groupDeleteOwn, groupId_range h]

/-- GROUP_DEFINE with its fields in range has no further check (R111). -/
theorem groupDefineOwn_named {pol : Policy} {members : List MailboxId} (hg : gid.toNat = 32 + g.val)
    (hpol : policyOf policy = some pol)
    (hm : members = if (s.grp g).policy = none then [] else (s.grp g).members) :
    s.groupDefineOwn gid policy = answer (s.updGrp g fun _ => { policy := some pol, members := members })
      (.group g (some pol) members) := by
  simp only [State.groupDefineOwn, groupId_eq hg, hpol]
  rw [State.updGrp_congr (k := fun _ => { policy := some pol, members := members }), groupAnswer_updGrp]
  cases h : (s.grp g).policy <;> simp [hm, h]

/-- The checks of GROUP_ADD on the group and the mailbox that it names (R112, R113). -/
theorem groupAddOwn_named (hg : gid.toNat = 32 + g.val) (hid : id.toNat = m.val) :
    s.groupAddOwn gid id =
      if (s.grp g).policy = none then refuse s .noSuch
      else if (s.mbx m).state = .free then refuse s .noSuch
      else if (s.mbx m).state = .closing then refuse s .closed
      else if m ∈ (s.grp g).members then refuse s .wrongState
      else if (s.grp g).members.length = 8 then refuse s .full
      else answer (s.updGrp g fun x => { x with members := x.members ++ [m] })
        (.group g (s.grp g).policy ((s.grp g).members ++ [m])) := by
  simp only [State.groupAddOwn, groupId_eq hg, mailboxId_eq hid, groupAnswer_updGrp, Config.maxMembers]

/-- The checks of GROUP_ADD on a DEFINED group and a mailbox that may join (R112, R113). -/
theorem groupAddOwn_live (hg : gid.toNat = 32 + g.val) (hid : id.toNat = m.val)
    (hdef : (s.grp g).policy ≠ none) (hlive : (s.mbx m).state.live) :
    s.groupAddOwn gid id =
      if m ∈ (s.grp g).members then refuse s .wrongState
      else if (s.grp g).members.length = 8 then refuse s .full
      else answer (s.updGrp g fun x => { x with members := x.members ++ [m] })
        (.group g (s.grp g).policy ((s.grp g).members ++ [m])) := by
  rw [groupAddOwn_named hg hid, if_neg hdef, if_neg, if_neg] <;>
    rcases hlive with h | h <;> rw [h] <;> decide

/-- The checks of GROUP_REMOVE on the group and the mailbox that it names (R114). -/
theorem groupRemoveOwn_named (hg : gid.toNat = 32 + g.val) (hid : id.toNat = m.val) :
    s.groupRemoveOwn gid id =
      if (s.grp g).policy = none then refuse s .noSuch
      else if m ∈ (s.grp g).members then
        (s.updGrp g fun x => { x with members := x.members.filter fun y => decide (y ≠ m) }).groupAnswer g
      else refuse s .noSuch := by
  simp only [State.groupRemoveOwn, groupId_eq hg, mailboxId_eq hid]

/-- A member taken out of a list that holds no mailbox twice is erased (R114). -/
theorem groupRemoveOwn_done (hg : gid.toNat = 32 + g.val) (hid : id.toNat = m.val)
    (hdef : (s.grp g).policy ≠ none) (hmem : m ∈ (s.grp g).members) (hn : (s.grp g).members.Nodup) :
    s.groupRemoveOwn gid id = answer (s.updGrp g fun x => { x with members := x.members.erase m })
      (.group g (s.grp g).policy ((s.grp g).members.erase m)) := by
  have herase : (s.grp g).members.filter (fun y => decide (y ≠ m)) = (s.grp g).members.erase m := by
    simp only [hn.erase_eq_filter, bne, decide_not, Bool.beq_eq_decide_eq]
  rw [groupRemoveOwn_named hg hid, if_neg hdef, if_pos hmem,
    State.updGrp_congr (k := fun x => { x with members := x.members.erase m })
      (congrArg (fun ms => ({ s.grp g with members := ms } : Group)) herase), groupAnswer_updGrp]

/-- The check of GROUP_DELETE on the group that it names (R115). -/
theorem groupDeleteOwn_named (hg : gid.toNat = 32 + g.val) :
    s.groupDeleteOwn gid =
      if (s.grp g).policy = none then refuse s .noSuch
      else answer (s.updGrp g fun _ => { policy := none, members := [] }) (.group g none []) := by
  simp only [State.groupDeleteOwn, groupId_eq hg, groupAnswer_updGrp, Group.undefined]

/-! ### The obligations -/

/-- Settles O39: with both fields in range GROUP_DEFINE has no check left to fail. -/
theorem groupDefineSetsThePolicy : Obligations.GroupDefineSetsThePolicy := by
  intro s p seq gid policy g pol hs hp hg hpol members hm
  exact exec_principal_answered hs hp (exec_groupDefine ..) (groupDefineOwn_named hg (policyOf_eq hpol) hm)

/-- Settles O40: every check passes, so each command comes to its effect; the group law makes taking a member
out the same as erasing its one place. -/
theorem groupAddRemoveDelete : Obligations.GroupAddRemoveDelete := by
  intro s p seq gid id g m hs hp hg hid hdef hl
  refine ⟨fun hnot hlen hlive => exec_principal_answered hs hp (exec_groupAdd ..) ?_,
    fun hmem => exec_principal_answered hs hp (exec_groupRemove ..)
      (groupRemoveOwn_done hg hid hdef hmem (hl g).1),
    exec_principal_answered hs hp (exec_groupDelete ..) ?_⟩
  · rw [groupAddOwn_live hg hid hdef hlive, if_neg hnot, if_neg hlen.ne]
  · rw [groupDeleteOwn_named hg, if_neg hdef]

/-- Settles O41: each clause is the first check that fails. -/
theorem groupCommandRefusals : Obligations.GroupCommandRefusals := by
  intro s p seq gid id policy hs hp
  have hadd {st} : s.groupAddOwn gid id = refuse s st →
      exec (.groupAdd p seq gid id) s = .next (s.replied p Kind.groupAdd seq st .none) :=
    exec_principal_refused hs hp (exec_groupAdd ..)
  have hremove {st} : s.groupRemoveOwn gid id = refuse s st →
      exec (.groupRemove p seq gid id) s = .next (s.replied p Kind.groupRemove seq st .none) :=
    exec_principal_refused hs hp (exec_groupRemove ..)
  have hdelete {st} : s.groupDeleteOwn gid = refuse s st →
      exec (.groupDelete p seq gid) s = .next (s.replied p Kind.groupDelete seq st .none) :=
    exec_principal_refused hs hp (exec_groupDelete ..)
  refine ⟨fun h => exec_principal_refused hs hp (exec_groupDefine ..) (groupDefineOwn_range h),
    fun h => ⟨hadd (groupAddOwn_range h), hremove (groupRemoveOwn_range h)⟩,
    fun h => hdelete (groupDeleteOwn_range h), fun g m hg hid => ?_⟩
  refine ⟨fun hundef => ⟨hadd ?_, hremove ?_, hdelete ?_⟩, fun hdef hnot => hremove ?_,
    fun hdef hfree => hadd ?_, fun hdef hcl => hadd ?_,
    fun hdef hlive => ⟨fun hmem => hadd ?_, fun hnot hfull => hadd ?_⟩⟩
  · rw [groupAddOwn_named hg hid, if_pos hundef]
  · rw [groupRemoveOwn_named hg hid, if_pos hundef]
  · rw [groupDeleteOwn_named hg, if_pos hundef]
  · rw [groupRemoveOwn_named hg hid, if_neg hdef, if_neg hnot]
  · rw [groupAddOwn_named hg hid, if_neg hdef, if_pos hfree]
  · rw [groupAddOwn_named hg hid, if_neg hdef, if_neg (by rw [hcl]; decide), if_pos hcl]
  · rw [groupAddOwn_live hg hid hdef hlive, if_pos hmem]
  · rw [groupAddOwn_live hg hid hdef hlive, if_neg hnot, if_pos hfull]

end Sys2Proof.Machine
end

section
/-! SUPPORT. The stages that every command frame passes, and the principal check (R120, R121, R147, R157, R173). -/

namespace Sys2Proof.Machine

variable {p : PortId} {c : Instr} {kind seq : Byte} {body : List Byte}

/-- The frame of a command passes the stages before its own checks, or is MALFORMED by its body (R121, R151). -/
theorem exec_command (hf : encodeFrame c = some ⟨p, kind, seq, body⟩) (ha : kind ≠ Kind.accept)
    (hd : kind ≠ Kind.decline) :
    (∃ own, ∀ s, exec c s = event (fun s => s.takeCommand p kind seq own) s) ∨
      (c.wellFormed = false ∧ ∀ s, exec c s = event (fun s => s.takeMalformed p kind seq) s) := by
  cases c <;> cases hf
  case accept => exact absurd rfl ha
  case decline => exact absurd rfl hd
  case send payload =>
    by_cases hl : payload.length ≤ Config.maxPayload
    · exact .inl ⟨_, fun s => by simp only [exec_send, if_pos hl]; rfl⟩
    · exact .inr ⟨decide_eq_false hl, fun s => by simp only [exec_send, if_neg hl]⟩
  all_goals exact .inl ⟨_, fun _ => rfl⟩

/-- Settles O5: every command frame goes through `State.takeCommand`, whose stages come one after the other. -/
theorem commandStages : Obligations.CommandStages := by
  rintro c ⟨p, kind, seq, body⟩ s hw hf ha hd hr
  obtain ⟨own, hc⟩ := (exec_command hf ha hd).resolve_right fun h => by rw [hw] at h; cases h.1
  rw [hc, event_awake _ hr]
  exact ⟨fun hdown => congrArg _ (takeFrame_down hdown),
    fun hn hfull => congrArg _ (takeFrame_full hn hfull),
    fun hn hslot hm hq => congrArg _ (takeCommand_fault ⟨hr, hn, hslot⟩ hm hq),
    fun hs hslot hm hq hk => congrArg _
      (takeCommand_announced ⟨hr, by rw [hs]; decide, hslot⟩ hm hs hq hk)⟩

/-- A principal command makes the principal check before all others (R120). -/
theorem exec_principalCommand (hf : encodeFrame c = some ⟨p, kind, seq, body⟩)
    (hk : kind ∈ [Kind.configure, Kind.groupDefine, Kind.groupAdd, Kind.groupRemove,
      Kind.groupDelete, Kind.forceClose, Kind.clear, Kind.retest]) :
    ∃ own, ∀ s, exec c s = event (fun s => s.takeCommand p kind seq (ofPrincipal p own)) s := by
  cases c <;> cases hf
  case configure | groupDefine | groupAdd | groupRemove | groupDelete | forceClose | clear | retest =>
    exact ⟨_, fun _ => rfl⟩
  all_goals exact absurd hk (by decide)

/-- Settles O6: the principal check comes before the command's own and fails. -/
theorem principalCommandsNeedThePrincipal : Obligations.PrincipalCommandsNeedThePrincipal := by
  rintro c ⟨p, kind, seq, body⟩ s hf hs hp hk
  obtain ⟨own, hc⟩ := exec_principalCommand hf hk
  exact exec_refused hs (hc s) (ofPrincipal_no hp)

end Sys2Proof.Machine
end

section
/-! SUPPORT. The session that ATTACH starts and the epoch that it chooses (R127 to R129). -/

namespace Sys2Proof.Machine

variable {s : State} {p : PortId} {window enables : Byte}

/-! ### ATTACH (R127, R129) -/

theorem windowOf_eq (h : 1 ≤ window.toNat) (h' : window.toNat ≤ 4) :
    windowOf window = some window.toNat := if_pos ⟨h, h'⟩

theorem eventSet_eq (h : enables.msb = false) : eventSet enables = some (enables.setWidth 7) := by
  rw [eventSet, h, if_neg Bool.false_ne_true, ← BitVec.setWidth_eq_extractLsb' (by decide)]

/-- ATTACH with both fields in range (R127, R129). -/
theorem attachOwn_done (ha : (s.port p).session = .announced) (h : 1 ≤ window.toNat)
    (h' : window.toNat ≤ 4) (he : enables.msb = false) :
    s.attachOwn p window enables =
      answer (s.updPort p (·.attach (s.chooseEpoch p) window.toNat (enables.setWidth 7)))
        (.attached (s.chooseEpoch p) p (s.port p).principal) := by
  rw [State.attachOwn, if_neg (by rw [ha]; decide), windowOf_eq h h', eventSet_eq he]

/-- Settles O14: outside FAULT an ATTACH passes both stages on an ANNOUNCED port, and its own checks pass. -/
theorem attachStartsASession : Obligations.AttachStartsASession := by
  intro s p seq window enables hh hm ha h h' he
  rw [exec_attach, event_awake _ hh.awake, takeCommand_open hh (.inr ⟨rfl, hm⟩),
    attachOwn_done ha h h' he]
  rfl

/-! ### The choice of the epoch (R128) -/

theorem State.carriesEpoch_iff {e : BitVec 16} : s.carriesEpoch p e = true ↔
    ∃ d x, s.desc d = some x ∧ x.senderPort = p ∧ x.senderEpoch = e := by
  rw [State.carriesEpoch, Bool.not_eq_true', List.isEmpty_eq_false_iff_exists_mem]
  refine exists_congr fun d => ?_
  rw [Table.mem_indices]
  show (match s.desc d with
    | some x => decide (x.senderPort = p ∧ x.senderEpoch = e)
    | none => false) = true ↔ _
  cases s.desc d <;> simp

/-- The count passes over epochs that LIVE descriptors carry, and stops at one that is not carried or with the
fuel spent. -/
theorem State.epochFrom_spec (s : State) (p : PortId) (fuel : Nat) (e : BitVec 16) :
    ∃ k ≤ fuel, s.epochFrom p fuel e = nextEpoch^[k + 1] e ∧
      (∀ j < k, s.carriesEpoch p (nextEpoch^[j + 1] e) = true) ∧
      (k < fuel → s.carriesEpoch p (nextEpoch^[k + 1] e) = false) := by
  induction fuel generalizing e with
  | zero => exact ⟨0, le_rfl, rfl, nofun, nofun⟩
  | succ n ih =>
    cases hc : s.carriesEpoch p (nextEpoch e) with
    | false =>
      exact ⟨0, Nat.zero_le _, by simp [State.epochFrom, hc], nofun, fun _ => hc⟩
    | true =>
      obtain ⟨k, hk, heq, hpassed, hstop⟩ := ih (nextEpoch e)
      refine ⟨k + 1, Nat.succ_le_succ hk, by simpa [State.epochFrom, hc] using heq, fun j hj => ?_,
        fun h => hstop (Nat.lt_of_succ_lt_succ h)⟩
      cases j with
      | zero => exact hc
      | succ j => exact hpassed j (Nat.lt_of_succ_lt_succ hj)

theorem nextEpoch_toNat (e : BitVec 16) : (nextEpoch e).toNat = e.toNat % 65535 + 1 := by
  unfold nextEpoch
  split
  · next h => rw [h]; rfl
  · next h =>
    have : e.toNat ≠ 65535 := fun h' => h (BitVec.eq_of_toNat_eq h')
    rw [BitVec.toNat_add]
    have := e.isLt
    simp only [BitVec.toNat_ofNat]
    omega

/-- The count goes round the 65535 epochs other than 0. -/
theorem nextEpoch_iterate_toNat (j : Nat) (e : BitVec 16) :
    (nextEpoch^[j + 1] e).toNat = (e.toNat + j) % 65535 + 1 := by
  induction j with
  | zero => exact nextEpoch_toNat e
  | succ j ih =>
    rw [Function.iterate_succ_apply', nextEpoch_toNat, ih, Nat.mod_add_mod, Nat.add_assoc]

/-- A port's 128 LIVE descriptors at most do not carry 129 epochs that follow one another (R1, R128). -/
theorem State.exists_epoch_not_carried (s : State) (p : PortId) (e : BitVec 16) :
    ∃ j ≤ 128, s.carriesEpoch p (nextEpoch^[j + 1] e) = false := by
  by_contra hall
  simp only [not_exists, not_and, Bool.not_eq_false] at hall
  choose d x hd _ he using fun j : Fin 129 =>
    State.carriesEpoch_iff.1 (hall j.val (Nat.le_of_lt_succ j.isLt))
  have hinj : Function.Injective d := fun i j hij => by
    have hx : x i = x j := Option.some.inj ((hd i).symm.trans (hij ▸ hd j))
    have hn := congrArg BitVec.toNat ((he i).symm.trans (hx ▸ he j))
    rw [nextEpoch_iterate_toNat, nextEpoch_iterate_toNat] at hn
    ext
    omega
  have := Fintype.card_le_of_injective d hinj
  simp at this

/-- Settles O15: were the value at which the count stops carried, the fuel would be spent and 129 epochs in
turn carried. -/
theorem attachChoosesTheFirstUnusedEpoch : Obligations.AttachChoosesTheFirstUnusedEpoch := by
  intro s p
  obtain ⟨k, hk, heq, hpassed, hstop⟩ := s.epochFrom_spec p 128 (s.port p).epoch
  have hfree : s.carriesEpoch p (nextEpoch^[k + 1] (s.port p).epoch) = false := by
    obtain ⟨j, hj, hnot⟩ := s.exists_epoch_not_carried p (s.port p).epoch
    have hkj : k ≤ j := Nat.le_of_not_lt fun h => by rw [hpassed j h] at hnot; cases hnot
    rcases hkj.eq_or_lt with rfl | hlt
    · exact hnot
    · exact hstop (hlt.trans_le hj)
  refine ⟨k, hk, heq, s.epochFrom_ne_zero p 128 _, fun d x hd hp he => ?_,
    fun j hj => State.carriesEpoch_iff.1 (hpassed j hj)⟩
  have := State.carriesEpoch_iff.2 ⟨d, x, hd, hp, he.trans heq⟩
  rw [hfree] at this
  cases this

end Sys2Proof.Machine
end

section
/-! SUPPORT. Breaks on a port without a session, and frames that are no use (R122 to R125, R145 to R147). -/

namespace Sys2Proof.Machine

variable {s : State} {p : PortId}

/-- Settles O17: each row is one update of the port's record. -/
theorem breaksWithoutASession : Obligations.BreaksWithoutASession := by
  intro s p hr
  rw [exec_breakStart, exec_breakEnd, event_awake _ hr, event_awake _ hr]
  refine ⟨fun hb hs => ?_, fun hb hs => ?_, fun hb => ?_⟩
  · simp only [State.breakStarts, hb, hs, Bool.false_eq_true, if_false]
  · simp only [State.breakStarts, hb, hs, Bool.false_eq_true, if_false, State.updPort_updPort]
    rfl
  · rw [State.breakEnds, if_pos hb]
    rfl

/-- A frame discarded on a port that is not DOWN (R145). -/
theorem discardFrame_eq (h : (s.port p).session ≠ .down) :
    s.discardFrame p = (s.updPort p fun x =>
      { x with
        receiver := .hunt
        badFrames := if x.badFrames = 0xFFFF#16 then 0xFFFF#16 else x.badFrames + 1#16 }).raise
      .linkError p := by
  rw [State.discardFrame, if_neg h, State.raise, State.updPort_updPort]
  simp only [bump_eq]

/-- Settles O49: FRAME_DISCARD and a gap inside a frame are one act, and MALFORMED goes through the stages that
every frame of a command goes through. -/
theorem unusableFrames : Obligations.UnusableFrames := by
  rintro s p kind seq hr hn u rfl
  rw [exec_frameDiscard, exec_gapExpiry, exec_malformed, event_awake _ hr, event_awake _ hr,
    event_awake _ hr, ← discardFrame_eq hn]
  refine ⟨rfl, fun h => ?_, fun h => ?_, fun hslot => congrArg _ (takeFrame_hears ⟨hr, hn, hslot⟩),
    fun hfull => congrArg _ (takeFrame_full hn hfull)⟩
  · rw [State.gapExpired, if_neg h]
  · rw [State.gapExpired, if_pos h]

end Sys2Proof.Machine
end

section
/-! SUPPORT. The arbiter's choice, one equation for each frame that may be the first to wait (R126, R156, R159,
R165). -/

namespace Sys2Proof.Machine

variable {s : State} {p : PortId} {x : Port} {hello : HelloFrame}

/-! ### The oldest READY reply (R156) -/

theorem beginReply_cons {r : Reply} (h : r.isReady = false) (rs : List Reply) :
    beginReply (r :: rs) = (beginReply rs).map fun y => (y.1, r :: y.2) := by
  cases hr : r.state with
  | ready st res => simp [Reply.isReady, hr] at h
  | deferred a => simp only [beginReply, hr]
  | sending => simp only [beginReply, hr]

/-- Replies that are not READY are passed over. -/
theorem beginReply_append {rs : List Reply} (h : ∀ r ∈ rs, r.isReady = false) (qs : List Reply) :
    beginReply (rs ++ qs) = (beginReply qs).map fun y => (y.1, rs ++ y.2) := by
  induction rs with
  | nil => simp
  | cons r rest ih =>
    rw [List.forall_mem_cons] at h
    rw [List.cons_append, beginReply_cons h.1, ih h.2, Option.map_map]
    rfl

theorem beginReply_none {rs : List Reply} (h : ∀ r ∈ rs, r.isReady = false) :
    beginReply rs = none := by
  simpa [beginReply] using beginReply_append h []

theorem beginReply_oldest {ahead : List Reply} {r : Reply} {st : Status} {res : Results}
    (h : ∀ y ∈ ahead, y.isReady = false) (hr : r.state = .ready st res) (behind : List Reply) :
    beginReply (ahead ++ r :: behind) =
      some (.reply r.kind r.seq st res, ahead ++ { r with state := .sending } :: behind) := by
  simp [beginReply_append h, beginReply, hr]

/-! ### The first that waits (R159) -/

theorem beginFrame_hello (hello : HelloFrame) (h : x.helloPending = true) :
    x.beginFrame hello = { x with helloPending := false, tx := .sending (.hello hello) } := by
  simp only [Port.beginFrame, h, if_true]

theorem beginFrame_reply {ahead behind : List Reply} {r : Reply} {st : Status} {res : Results}
    (h : x.helloPending = false) (hx : x.replies = ahead ++ r :: behind)
    (ha : ∀ y ∈ ahead, y.isReady = false) (hr : r.state = .ready st res) :
    x.beginFrame hello =
      { x with
        replies := ahead ++ { r with state := .sending } :: behind
        tx := .sending (.reply r.kind r.seq st res) } := by
  simp only [Port.beginFrame, h, Bool.false_eq_true, if_false, hx, beginReply_oldest ha hr]

section
variable (h : x.helloPending = false) (hr : ∀ r ∈ x.replies, r.isReady = false)
include h hr

theorem beginFrame_notice (hq : x.noticeQueued = true) :
    x.beginFrame hello = { x with noticeQueued := false, tx := .sending (.event x.flags) } := by
  simp only [Port.beginFrame, h, Bool.false_eq_true, if_false, beginReply_none hr, hq, if_true]

theorem beginFrame_report (hq : x.noticeQueued = false) {r : Report} {rest : List Report}
    (hx : x.reports = r :: rest) :
    x.beginFrame hello = { x with reports := rest, tx := .sending (.report r) } := by
  simp only [Port.beginFrame, h, Bool.false_eq_true, if_false, beginReply_none hr, hq, hx]

theorem beginFrame_offer (hq : x.noticeQueued = false) (hx : x.reports = []) {pr : Prepared}
    (hp : x.prepared = some pr) :
    x.beginFrame hello = { x with tx := .sending (.offer pr.frame) } := by
  simp only [Port.beginFrame, h, Bool.false_eq_true, if_false, beginReply_none hr, hq, hx, hp]

theorem beginFrame_nothing (hq : x.noticeQueued = false) (hx : x.reports = [])
    (hp : x.prepared = none) : x.beginFrame hello = x := by
  simp only [Port.beginFrame, h, Bool.false_eq_true, if_false, beginReply_none hr, hq, hx, hp]

end

/-- The arbiter's act, seen at the port's record: a free transmitter begins its choice (R159). -/
theorem exec_arbiterBeginFrame_idle (hr : s.inReset = false) (htx : (s.port p).tx = .idle)
    {f : Port → Port} (h : (s.port p).beginFrame (s.hello p) = f (s.port p)) :
    exec (.arbiterBeginFrame p) s = .next (s.updPort p f) := by
  rw [exec_arbiterBeginFrame_awake hr, State.arbitrate, if_pos htx, State.updPort_congr h]

/-- Settles O50: each clause is the first branch of the arbiter's choice that is taken. -/
theorem arbiterBeginsTheFirstWaiting : Obligations.ArbiterBeginsTheFirstWaiting := by
  rintro s p x hr rfl begun rfl
  have begins {f} := exec_arbiterBeginFrame_idle (s := s) (p := p) (f := f) hr
  refine ⟨fun hbusy => ?_, fun htx hh => begins htx (beginFrame_hello _ hh), fun htx hh =>
    ⟨fun a r b st res hx ha hst => begins htx (beginFrame_reply hh hx ha hst), fun hrep =>
      ⟨fun hq => begins htx (beginFrame_notice hh hrep hq), fun hq =>
        ⟨fun r rest hx => begins htx (beginFrame_report hh hrep hq hx), fun hx =>
          ⟨fun pr hp => begins htx (beginFrame_offer hh hrep hq hx hp),
            fun hp => begins htx (beginFrame_nothing hh hrep hq hx hp)⟩⟩⟩⟩⟩
  show exec (.arbiterBeginFrame p) s = .next (s.updPort p id)
  rw [exec_arbiterBeginFrame_awake hr, State.arbitrate, if_neg hbusy, State.updPort_eq_self _ _ _ rfl]

end Sys2Proof.Machine
end

section
/-! SUPPORT. FAULT, the principal flags and the rate code over every act but power-on and reset (R120, R172, R181,
R188). -/

namespace Sys2Proof.Machine

/-- FAULT is not left, and the straps stand as they were sampled (R172, R188). -/
structure StrapsKept (s t : State) : Prop where
  fault : s.mode = .fault → t.mode = .fault
  principal : ∀ p, (t.port p).principal = (s.port p).principal
  rate : t.rate = s.rate

variable {s t u : State} {p : PortId}

theorem StrapsKept.refl (s : State) : StrapsKept s s := ⟨id, fun _ => rfl, rfl⟩

theorem StrapsKept.trans (h : StrapsKept s t) (k : StrapsKept t u) : StrapsKept s u :=
  ⟨fun hf => k.fault (h.fault hf), fun p => (k.principal p).trans (h.principal p),
    k.rate.trans h.rate⟩

theorem StrapsKept.foldl {α : Type} {f : State → α → State} (as : List α)
    (h : ∀ s a, StrapsKept s (f s a)) (s : State) : StrapsKept s (as.foldl f s) := by
  induction as generalizing s with
  | nil => exact .refl s
  | cons a rest ih => exact (h s a).trans (ih _)

/-- Acts on the tables other than the ports. -/
theorem StrapsKept.of_ports (hm : t.mode = s.mode) (hr : t.rate = s.rate) (hp : t.ports = s.ports) :
    StrapsKept s t :=
  ⟨fun hf => hm.trans hf, fun p => congrArg (fun ps => (ps.get p).principal) hp, hr⟩

theorem StrapsKept.of_registers (h : t.registers = s.registers)
    (hp : ∀ p, (t.port p).principal = (s.port p).principal) : StrapsKept s t := by
  obtain ⟨-, -, hm, -, -, hr, -⟩ := State.registers_fields h
  exact ⟨fun hf => hm.trans hf, hp, hr⟩

theorem OnlyPortsBoxes.strapsKept (h : OnlyPortsBoxes s t)
    (hp : ∀ p, (t.port p).principal = (s.port p).principal) : StrapsKept s t := by
  obtain ⟨-, -, -, -, -, -, hr⟩ := h.tables
  exact .of_registers hr hp

theorem strapsKept_updPort (s : State) {p : PortId} {f : Port → Port}
    (h : (f (s.port p)).principal = (s.port p).principal) : StrapsKept s (s.updPort p f) :=
  .of_registers rfl fun q => by
    rw [State.port_updPort]
    split
    · next hq => rw [hq]; exact h
    · rfl

theorem strapsKept_allPorts (s : State) {f : Port → Port} (h : ∀ x, (f x).principal = x.principal) :
    StrapsKept s (s.allPorts f) :=
  .of_registers rfl fun q => by rw [State.port_allPorts]; exact h _

/-! ### Port records -/

@[simp] theorem Port.evalNotice_principal (x : Port) : x.evalNotice.principal = x.principal := by
  rw [Port.evalNotice_eq]

@[simp] theorem Port.complete_principal (x : Port) (a : Awaited) (res : Results) :
    (x.complete a res).principal = x.principal := by
  rw [Port.complete_eq]

@[simp] theorem Port.leaveFlight_principal (x : Port) (e : EntryId) :
    (x.leaveFlight e).principal = x.principal := by
  rw [Port.leaveFlight_eq]
  rfl

@[simp] theorem Port.takeReport_principal (x : Port) (r : Report) :
    (x.takeReport r).principal = x.principal := by
  unfold Port.takeReport
  split
  · rfl
  · exact Port.raise_principal _ _

@[simp] theorem Port.beginFrame_principal (x : Port) (hello : HelloFrame) :
    (x.beginFrame hello).principal = x.principal := by
  rcases x.beginFrame_cases hello with h | ⟨_, _, _, _, _, h, -⟩ <;> rw [h]

@[simp] theorem Port.discardLink_principal (x : Port) (c : EndCause) :
    (x.discardLink c).principal = x.principal := by cases c <;> rfl

@[simp] theorem Port.breakLink_principal (x : Port) : x.breakLink.principal = x.principal := rfl

@[simp] theorem Port.afterFault_principal (x : Port) : x.afterFault.principal = x.principal := by
  unfold Port.afterFault
  split <;> rfl

theorem State.closesEnded_principal (w : State) (p q : PortId) :
    (w.closesEnded p q).principal = (w.port q).principal := by rw [State.closesEnded_eq]

/-! ### Armings, resolutions and closes -/

theorem strapsKept_raise (s : State) (e : Event) (p : PortId) : StrapsKept s (s.raise e p) :=
  strapsKept_updPort s (Port.raise_principal _ e)

theorem strapsKept_evalLevel (s : State) (m : MailboxId) : StrapsKept s (s.evalLevel m) :=
  .of_registers (by simp) fun p => by
    rcases s.port_evalLevel_cases m p with h | h <;> rw [h]
    exact Port.raise_principal _ _

theorem strapsKept_evalPool (s : State) : StrapsKept s s.evalPool :=
  .of_registers (by simp) fun p => by
    rcases s.port_evalPool_cases p with h | h <;> rw [h]
    exact Port.raise_principal _ _

theorem strapsKept_handReport (s : State) (d : Descriptor) : StrapsKept s (s.handReport d) := by
  unfold State.handReport
  split
  · refine strapsKept_updPort s ?_
    split
    · exact Port.takeReport_principal _ _
    · rfl
  · exact .refl s

theorem strapsKept_completeIfDone (s : State) (i : DescId) : StrapsKept s (s.completeIfDone i) := by
  unfold State.completeIfDone
  split
  · next d _ =>
    split
    · exact (strapsKept_handReport s d).trans (.trans
        (t := ((s.handReport d).moveBuffers d.buffers .free).setDesc i none) (.of_ports rfl rfl rfl)
        (strapsKept_evalPool _))
    · exact .refl s
  · exact .refl s

theorem strapsKept_resolve (s : State) (e : EntryId) (o : EntryOutcome) :
    StrapsKept s (s.resolve e o) := by
  cases he : s.entry e with
  | none => rw [State.resolve_none o he]; exact .refl s
  | some en =>
    rw [State.resolve_some o he]
    refine StrapsKept.trans ?_ ((strapsKept_evalLevel (s.takeOut e en o) _).trans
      (strapsKept_completeIfDone _ _))
    have hbox : StrapsKept s (s.updMbx en.mailbox (·.release e o)) := .of_ports rfl rfl rfl
    exact (hbox.trans (strapsKept_updPort _ (p := (s.mbx en.mailbox).owner) (f := (·.leaveFlight e))
      (Port.leaveFlight_principal _ e))).trans (.of_ports rfl rfl rfl)

theorem strapsKept_resolveAll (s : State) (es : List EntryId) (o : EntryOutcome) :
    StrapsKept s (s.resolveAll es o) :=
  .foldl es (fun s e => strapsKept_resolve s e o) s

theorem strapsKept_nonAccepting (s : State) (e : EntryId) (b : Bool) :
    StrapsKept s (s.nonAccepting e b) := by
  unfold State.nonAccepting State.requeue
  split
  · exact .refl s
  · split
    · exact .refl s
    · split
      · exact strapsKept_resolve s e _
      · exact .trans (t := s.setEntry e _) (.of_ports rfl rfl rfl)
          (strapsKept_updPort _ (Port.leaveFlight_principal _ e))

theorem strapsKept_thenClose (s : State) (e : EntryId) {act : State → State}
    (h : StrapsKept s (act s)) : StrapsKept s (s.thenClose e act) := by
  unfold State.thenClose State.closeIfEmpty
  split
  · exact .refl s
  · split
    · next en _ _ =>
      obtain ⟨honly, -, hport⟩ := (act s).finishClose_spec en.mailbox
      refine h.trans (honly.strapsKept fun q => ?_)
      rw [hport]
      split
      · exact Port.complete_principal _ _ _
      · rfl
    · exact h

theorem strapsKept_tellOwner (s : State) (p : PortId) (m : MailboxId) :
    StrapsKept s (s.tellOwner p m) := by
  unfold State.tellOwner
  split
  · exact .refl s
  · exact strapsKept_raise s _ _

theorem strapsKept_freeDormant (s : State) (m : MailboxId) : StrapsKept s (s.freeDormant m) :=
  (strapsKept_resolveAll s _ .purged).trans (.of_ports rfl rfl rfl)

theorem strapsKept_closeOpen (s : State) (p : PortId) (seq : Byte) (m : MailboxId) :
    StrapsKept s (s.closeOpen p seq m).1 := by
  refine .trans (t := s.beginClose m) (.of_ports rfl rfl rfl)
    ((strapsKept_resolveAll _ ((s.beginClose m).queuedIn m) .purged).trans ?_)
  unfold State.closeOpen
  dsimp only
  split <;> exact .of_ports rfl rfl rfl

theorem strapsKept_cancelAt (s : State) (i : DescId) (n : BitVec 32) :
    StrapsKept s (s.cancelAt i n).1 := by
  refine (strapsKept_resolveAll s (s.queuedOf i) .cancelled).trans ?_
  unfold State.cancelAt
  dsimp only
  split <;> exact .of_ports rfl rfl rfl

/-! ### SEND, CLEAR and session ends -/

theorem strapsKept_addEntry (s : State) (i : DescId) (m : MailboxId) :
    StrapsKept s (s.addEntry i m) := by
  unfold State.addEntry
  split
  · exact .refl s
  · refine .trans ?_ (strapsKept_evalLevel _ m)
    exact .of_ports rfl rfl rfl

theorem strapsKept_allocate (s : State) (p : PortId) (f : SendFields) (ts : List MailboxId) (k : Nat) :
    StrapsKept s (s.allocate p f ts k) := by
  cases hi : s.descriptors.first (·.isNone) with
  | none =>
    have : s.allocate p f ts k = s := by simp only [State.allocate, hi]
    rw [this]
    exact .refl s
  | some i =>
    rw [State.allocate_some hi]
    exact .trans (t := s.takeIn p f ts.length k i) (.of_ports rfl rfl rfl)
      ((StrapsKept.foldl ts (fun s m => strapsKept_addEntry s i m) _).trans (strapsKept_evalPool _))

theorem strapsKept_clearAll (s : State) : StrapsKept s s.clearAll := by
  obtain ⟨⟨ps, h⟩, -⟩ := s.clearAll_spec
  have hp : StrapsKept s s.emptied := .of_registers rfl fun p => by rw [State.port_emptied]; rfl
  have he := hp.trans (strapsKept_evalPool _)
  refine ⟨fun hf => ?_, fun p => ?_, ?_⟩
  · rw [h]; exact he.fault hf
  · rw [State.port_clearAll]; exact he.principal p
  · rw [h]; exact he.rate

theorem strapsKept_endSession (s : State) (p : PortId) (c : EndCause) :
    StrapsKept s (s.endSession p c) := by
  rw [State.endSession_eq, State.withdraw_eq]
  refine StrapsKept.trans (.foldl _ (fun s e => ?_) s)
    ((State.leaveUp_only _ p c).strapsKept fun q => ?_)
  · exact .trans (t := s.updEntry e fun en => { en with attempts := en.attempts - 1 })
      (.of_ports rfl rfl rfl) (strapsKept_nonAccepting _ _ _)
  · by_cases hq : q = p
    · rw [hq, State.port_leaveUp_self]
      exact (Port.discardLink_principal _ c).trans (State.closesEnded_principal _ p p)
    · rw [State.port_leaveUp_ne _ c hq]
      split
      · exact (Port.raise_principal _ _).trans (State.closesEnded_principal _ p q)
      · exact State.closesEnded_principal _ p q

/-! ### Commands -/

theorem Effect.strapsKept (h : Effect p s t) (hs : Serves s p) : StrapsKept s t := by
  cases h with
  | detach => exact strapsKept_endSession s p .detach
  | close => exact (strapsKept_tellOwner s p _).trans (strapsKept_closeOpen _ _ _ _)
  | freed => exact (strapsKept_tellOwner s p _).trans (strapsKept_freeDormant _ _)
  | send => exact strapsKept_allocate s p _ _ _
  | cancel => exact strapsKept_cancelAt s _ _
  | setEvents => exact strapsKept_updPort s (Port.evalNotice_principal _)
  | readEvents => exact strapsKept_updPort s rfl
  | configure =>
    refine .trans ?_ (strapsKept_evalPool _)
    exact .of_ports rfl rfl rfl
  | clear => exact strapsKept_clearAll s
  | retest => exact ⟨fun hf => absurd hf hs.mode, fun _ => rfl, rfl⟩
  | opened | held | reclaim | group => exact .of_ports rfl rfl rfl

theorem Comes.strapsKept {kind seq : Byte} (h : Comes p kind seq s t) : StrapsKept s t := by
  obtain ⟨r, hr, rfl⟩ := h
  refine StrapsKept.trans ?_ (strapsKept_updPort r.1 rfl)
  cases hr with
  | refused => exact .refl s
  | read => exact .refl s
  | attached => exact strapsKept_updPort s rfl
  | effect _ hs he => exact he.strapsKept hs

theorem strapsKept_dropCommand (s : State) (p : PortId) : StrapsKept s (s.dropCommand p) :=
  strapsKept_updPort s (Port.raise_principal _ _)

/-- A command frame is ignored or dropped, or comes to an answer (R121, R147, R157). -/
theorem strapsKept_takeFrame {kind seq : Byte} {own : State → State × ReplyState}
    (hr : s.inReset = false) (h : Hears s p → StrapsKept s (s.takeFrame p kind seq own)) :
    StrapsKept s (s.takeFrame p kind seq own) := by
  by_cases hd : (s.port p).session = .down
  · rw [takeFrame_down hd]
    exact .refl s
  · by_cases hf : 4 ≤ (s.port p).replies.length
    · rw [takeFrame_full hd hf]
      exact strapsKept_dropCommand s p
    · exact h ⟨hr, hd, Nat.not_le.1 hf⟩

/-- An event has no effect while RESETn is low (R175). -/
theorem StrapsKept.of_event {c : Instr} {g : State → State} (hx : exec c s = .next t)
    (hc : exec c s = event g s) (h : s.inReset = false → StrapsKept s (g s)) : StrapsKept s t := by
  rw [hc] at hx
  cases hr : s.inReset with
  | true =>
    rw [event_inReset g hr] at hx
    cases hx
    exact .refl s
  | false =>
    rw [event_awake g hr] at hx
    cases hx
    exact h hr

theorem strapsKept_command {c : Instr} {kind seq : Byte} {body : List Byte}
    (hf : encodeFrame c = some ⟨p, kind, seq, body⟩) (ha : kind ≠ Kind.accept)
    (hd : kind ≠ Kind.decline) (hx : exec c s = .next t) : StrapsKept s t := by
  have heard {g : State → State} (hr : s.inReset = false) (hc : exec c s = event g s)
      (hh : Hears s p) : StrapsKept s (g s) :=
    (comes_exec hf ha hd hh (hc.trans (event_awake g hr))).strapsKept
  rcases exec_command hf ha hd with ⟨own, hc⟩ | ⟨-, hc⟩
  · exact .of_event hx (hc s) fun hr => strapsKept_takeFrame hr (heard hr (hc s))
  · exact .of_event hx (hc s) fun hr => strapsKept_takeFrame hr (heard hr (hc s))

/-! ### Answers, expiries and selections -/

theorem strapsKept_stray (s : State) (p : PortId) : StrapsKept s (s.stray p) :=
  strapsKept_updPort s rfl

theorem strapsKept_takeAnswer {id : Byte} {act : EntryId → State} (h : ∀ e, StrapsKept s (act e)) :
    StrapsKept s (s.takeAnswer p id act) := by
  unfold State.takeAnswer
  split
  · exact .refl s
  · exact strapsKept_stray s p
  · split
    · exact h _
    · exact strapsKept_stray s p

theorem strapsKept_decline (s : State) (p : PortId) (id requeue : Byte) :
    StrapsKept s (s.decline p id requeue) := by
  refine strapsKept_takeAnswer fun e => ?_
  split
  · exact strapsKept_thenClose s e (strapsKept_resolve s e _)
  · exact strapsKept_thenClose s e (strapsKept_nonAccepting s e true)
  · exact strapsKept_stray s p

theorem strapsKept_reach (s : State) (n : Nat) : StrapsKept s (s.reach n) := .of_ports rfl rfl rfl

theorem strapsKept_ackExpires (s : State) (p : PortId) (id : Byte) :
    StrapsKept s (s.ackExpires p id) := by
  unfold State.ackExpires
  split
  · next e n _ =>
    exact (strapsKept_reach s n).trans
      (strapsKept_thenClose _ e (strapsKept_nonAccepting _ e true))
  · exact .refl s

theorem strapsKept_lifetimeExpires (s : State) (i : DescId) : StrapsKept s (s.lifetimeExpires i) := by
  unfold State.lifetimeExpires
  split
  · exact .refl s
  · split
    · exact .refl s
    · next n _ =>
      exact ((strapsKept_reach s n).trans (strapsKept_resolveAll _ _ .expired)).trans
        (.of_ports rfl rfl rfl)

theorem strapsKept_dormancyExpires (s : State) (m : MailboxId) :
    StrapsKept s (s.dormancyExpires m) := by
  unfold State.dormancyExpires
  split
  · next n _ _ => exact (strapsKept_reach s n).trans (strapsKept_freeDormant _ m)
  · exact .refl s

theorem strapsKept_select (s : State) (p : PortId) : StrapsKept s (s.select p) := by
  unfold State.select State.offerEntry
  split
  · split
    · split
      · exact .refl s
      · split
        · exact .refl s
        · exact .trans (t := s.setEntry _ _) (.of_ports rfl rfl rfl) (strapsKept_updPort _ rfl)
    · exact .refl s
  · exact .refl s

/-! ### The link -/

theorem strapsKept_arbitrate (s : State) (p : PortId) : StrapsKept s (s.arbitrate p) := by
  unfold State.arbitrate
  split
  · exact strapsKept_updPort s (Port.beginFrame_principal _ _)
  · exact .refl s

theorem strapsKept_endFrame (s : State) (p : PortId) (f : Frame) : StrapsKept s (s.endFrame p f) := by
  cases f with
  | offer o =>
    unfold State.endFrame
    dsimp only
    split
    · next pr _ =>
      exact .trans (t := s.offerSent pr.entry) (.of_ports rfl rfl rfl) (strapsKept_updPort _ rfl)
    · exact strapsKept_updPort s rfl
  | hello | reply | report | event => exact strapsKept_updPort s rfl

theorem strapsKept_lastByteSent (s : State) (p : PortId) : StrapsKept s (s.lastByteSent p) := by
  unfold State.lastByteSent
  split
  · exact (strapsKept_endFrame s p _).trans (strapsKept_arbitrate _ p)
  · exact .refl s
  · exact .refl s

theorem strapsKept_stoppedIdleEnded (s : State) (p : PortId) :
    StrapsKept s (s.stoppedIdleEnded p) := by
  unfold State.stoppedIdleEnded
  split
  · exact .trans (t := s.updPort p (·.freeTransmitter)) (strapsKept_updPort s rfl)
      (strapsKept_arbitrate _ p)
  · exact .refl s

theorem strapsKept_discardFrame (s : State) (p : PortId) : StrapsKept s (s.discardFrame p) := by
  unfold State.discardFrame
  split
  · exact .refl s
  · exact strapsKept_updPort s (Port.raise_principal _ _)

theorem strapsKept_gapExpired (s : State) (p : PortId) : StrapsKept s (s.gapExpired p) := by
  unfold State.gapExpired
  split
  · exact .refl s
  · exact strapsKept_discardFrame s p

theorem strapsKept_breakStarts (s : State) (p : PortId) : StrapsKept s (s.breakStarts p) := by
  have hline : StrapsKept s (s.updPort p fun x => { x with lineInBreak := true }) :=
    strapsKept_updPort s rfl
  unfold State.breakStarts
  dsimp only
  split
  · exact .refl s
  · split
    · exact hline
    · exact hline.trans (strapsKept_updPort _ (Port.breakLink_principal _))
    · exact (hline.trans (strapsKept_endSession _ p _)).trans
        (strapsKept_updPort _ (Port.breakLink_principal _))

theorem strapsKept_breakEnds (s : State) (p : PortId) : StrapsKept s (s.breakEnds p) := by
  unfold State.breakEnds
  split
  · refine strapsKept_updPort s ?_
    split <;> rfl
  · exact .refl s

/-! ### Test ends (R177) -/

theorem strapsKept_freed (s : State) : StrapsKept s s.freed := by
  refine .trans ?_ (strapsKept_allPorts _ Port.afterFault_principal)
  exact .of_ports rfl rfl rfl

theorem strapsKept_afterTest (s : State) (b : Bool) : StrapsKept s (s.afterTest b) := by
  unfold State.afterTest
  split
  · refine strapsKept_allPorts s fun x => ?_
    split <;> rfl
  · split
    · rw [State.faultTeardown_eq]
      refine StrapsKept.trans (.foldl _ (fun s p => ?_) s) (strapsKept_freed _)
      unfold State.endSessionAtFault
      split
      · exact strapsKept_endSession s p _
      · exact .refl s
    · exact strapsKept_allPorts s fun x => Port.complete_principal x _ _

/-- FAULT has no test in progress that could end (R172). -/
theorem strapsKept_testEnds (s : State) (failed : List BufferId) :
    StrapsKept s (s.testEnds failed) := by
  by_cases hm : s.mode = .testing
  · have ht := tested_endTest s failed
    have hend : s.testEnds failed = (s.endTest failed).afterTest s.startUp := by
      simp only [State.testEnds, if_pos hm, State.endTest, (tested_applyTest s failed).goodCount]
    rw [hend]
    refine StrapsKept.trans ⟨fun hf => ?_, fun p => ?_, ht.rate⟩ (strapsKept_afterTest _ _)
    · rw [hm] at hf
      cases hf
    · rcases ht.raised p with h | h <;> rw [h]
      exact Port.raise_principal _ _
  · rw [State.testEnds, if_neg hm]
    exact .refl s

/-! ### Every row -/

/-- Every row but POWER_ON, RESET_ASSERTED and BYTE_TAKEN. -/
theorem strapsKept_row {c : Instr} (hp : ∀ a b, c ≠ .powerOn a b) (hr : c ≠ .resetAsserted)
    (hb : ∀ p b, c ≠ .byteTaken p b) (hx : exec c s = .next t) : StrapsKept s t := by
  cases c with
  | attach | detach | openMailbox | close | hold | resume | reclaim | queryMailbox | send | cancel
  | setEvents | readEvents | queryPool | queryPort | configure | groupDefine | groupAdd
  | groupRemove | groupDelete | forceClose | clear | retest =>
    exact strapsKept_command rfl (by decide) (by decide) hx
  | accept p =>
    exact .of_event hx (exec_accept ..) fun _ => strapsKept_takeAnswer fun e =>
      strapsKept_thenClose s e (strapsKept_resolve s e _)
  | decline => exact .of_event hx (exec_decline ..) fun _ => strapsKept_decline s _ _ _
  | selection p => exact .of_event hx (exec_selection ..) fun _ => strapsKept_select s p
  | ackDeadlineExpiry =>
    exact .of_event hx (exec_ackDeadlineExpiry ..) fun _ => strapsKept_ackExpires s _ _
  | lifetimeExpiry i =>
    exact .of_event hx (exec_lifetimeExpiry ..) fun _ => strapsKept_lifetimeExpires s i
  | dormancyExpiry m =>
    exact .of_event hx (exec_dormancyExpiry ..) fun _ => strapsKept_dormancyExpires s m
  | breakStart p => exact .of_event hx (exec_breakStart ..) fun _ => strapsKept_breakStarts s p
  | breakEnd p => exact .of_event hx (exec_breakEnd ..) fun _ => strapsKept_breakEnds s p
  | frameDiscard p => exact .of_event hx (exec_frameDiscard ..) fun _ => strapsKept_discardFrame s p
  | gapExpiry p => exact .of_event hx (exec_gapExpiry ..) fun _ => strapsKept_gapExpired s p
  | malformed =>
    exact .of_event hx (exec_malformed ..) fun hr => strapsKept_takeFrame hr fun hh =>
      (comes_takeMalformed _ hh).strapsKept
  | arbiterBeginFrame p =>
    exact .of_event hx (exec_arbiterBeginFrame ..) fun _ => strapsKept_arbitrate s p
  | frameLastByteSent p =>
    exact .of_event hx (exec_frameLastByteSent ..) fun _ => strapsKept_lastByteSent s p
  | stoppedFrameIdleEnd p =>
    exact .of_event hx (exec_stoppedFrameIdleEnd ..) fun _ => strapsKept_stoppedIdleEnded s p
  | testEnd failed => exact .of_event hx (exec_testEnd ..) fun _ => strapsKept_testEnds s failed
  | powerOn a b => exact absurd rfl (hp a b)
  | resetAsserted => exact absurd rfl hr
  | byteTaken p b => exact absurd rfl (hb p b)

/-- A good frame's row means what the row means, and no frame means POWER_ON or RESET_ASSERTED (R147). -/
theorem strapsKept_deliver {i : Instr} (hx : deliver i s = .next t) : StrapsKept s t := by
  rcases deliver_cases i s with h | ⟨hb, h⟩
  · rw [h] at hx
    cases hx
    exact .refl s
  · cases i with
    | powerOn | resetAsserted =>
      cases hx
      exact .refl s
    | _ => exact strapsKept_row (by simp) (by simp) hb (h.symm.trans hx)

theorem strapsKept_byteTaken {b : Byte} (hx : exec (.byteTaken p b) s = .next t) :
    StrapsKept s t := by
  have hrec (r : Receiver) : StrapsKept s (s.setReceiver p r) := strapsKept_updPort s rfl
  change execByteTaken p b s = .next t at hx
  unfold execByteTaken at hx
  split at hx
  · cases hx
    exact .refl s
  · split at hx
    · cases hx
      exact hrec _
    · cases hx
      exact strapsKept_discardFrame s p
    · exact (hrec .hunt).trans (strapsKept_deliver hx)

/-- Settles O60: of the rows left only TEST_END and RETEST change the mode, and FAULT has no test to end and
refuses RETEST; no row but the two that sample the straps writes what they gave. -/
theorem faultAndPrincipalAreKept : Obligations.FaultAndPrincipalAreKept := by
  intro c s t hp hr hx
  have hkept : StrapsKept s t := by
    by_cases hb : ∀ p b, c ≠ .byteTaken p b
    · exact strapsKept_row hp hr hb hx
    · simp only [not_forall, not_not] at hb
      obtain ⟨p, b, rfl⟩ := hb
      exact strapsKept_byteTaken hx
  exact ⟨hkept.fault, hkept.principal, hkept.rate⟩

end Sys2Proof.Machine
end

section
/-! SUPPORT. The frames of a host written and read (R142, R147, R150, R151). -/

namespace Sys2Proof.Machine

/-! ### Two-byte fields (R149) -/

@[simp] theorem half_hiByte_loByte (h : Half) : half (hiByte h) (loByte h) = h :=
  BitVec.extractLsb'_append_extractLsb'_eq_extractLsb' (by decide) |>.trans BitVec.extractLsb'_eq_self

@[simp] theorem hiByte_half (hi lo : Byte) : hiByte (half hi lo) = hi :=
  BitVec.extractLsb'_append_eq_left

@[simp] theorem loByte_half (hi lo : Byte) : loByte (half hi lo) = lo :=
  BitVec.extractLsb'_append_eq_right

/-! ### A frame encoded and decoded (R150, R151) -/

/-- The rows with two-byte fields put them together again, a SEND has its payload within the bound, the other
frames carry their bytes as they are, and a row that is no frame has no encoding. -/
theorem decodeFrame_of_encodeFrame {c : Instr} {f : HostFrame} (hw : c.wellFormed = true)
    (h : encodeFrame c = some f) : decodeFrame f.port f.kind f.seq f.body = c := by
  cases c with
  | send p seq dest cls rep tag life len payload =>
    have hlen : payload.length ≤ Config.maxPayload := of_decide_eq_true hw
    cases h
    simp [decodeFrame, hlen]
  | openMailbox p seq id depth win retry mark =>
    cases h
    show Instr.openMailbox p seq id depth (half (hiByte win) (loByte win)) retry mark = _
    rw [half_hiByte_loByte]
  | cancel p seq tag =>
    cases h
    show Instr.cancel p seq (half (hiByte tag) (loByte tag)) = _
    rw [half_hiByte_loByte]
  | configure p seq mark limit =>
    cases h
    show Instr.configure p seq (half (hiByte mark) (loByte mark))
      (half (hiByte limit) (loByte limit)) = _
    rw [half_hiByte_loByte, half_hiByte_loByte]
  | _ => cases h <;> rfl

/-! ### A frame decoded and encoded (R147) -/

/-- The row says what the frame says: it is MALFORMED with the frame's KIND and SEQ, or it is encoded as the frame, an
answer with SEQ 0 (R148). -/
def SaysFrame (p : PortId) (kind seq : Byte) (body : List Byte) (i : Instr) : Prop :=
  i = .malformed p kind seq ∨
    encodeFrame i = some ⟨p, kind, if kind = Kind.accept ∨ kind = Kind.decline then 0#8 else seq, body⟩

section
variable {p : PortId} {kind seq : Byte} {body : List Byte}

/-- One KIND more among those that a body of this length may have. -/
theorem SaysFrame.ofKind {k : Byte} {i j : Instr}
    (hi : encodeFrame i = some ⟨p, k, if k = Kind.accept ∨ k = Kind.decline then 0#8 else seq, body⟩)
    (hj : SaysFrame p kind seq body j) : SaysFrame p kind seq body (if kind = k then i else j) := by
  split
  · next hk => exact .inr (hk ▸ hi)
  · exact hj

theorem saysFrame_send : SaysFrame p Kind.send seq body (decodeFrame p Kind.send seq body) := by
  unfold decodeFrame
  rw [if_pos rfl]
  split
  · split
    · exact .inr (by
        rw [encodeFrame, hiByte_half, loByte_half, hiByte_half, loByte_half, if_neg (by decide)])
    · exact .inl rfl
  · exact .inl rfl

/-- The body's length leaves the KINDs of its rows, and each of these keeps every byte of the body. -/
theorem saysFrame_decodeFrame (p : PortId) (kind seq : Byte) (body : List Byte) :
    SaysFrame p kind seq body (decodeFrame p kind seq body) := by
  by_cases hsend : kind = Kind.send
  · exact hsend ▸ saysFrame_send
  · unfold decodeFrame
    rw [if_neg hsend]
    split
    · iterate 5 refine .ofKind rfl ?_
      exact .inl rfl
    · iterate 10 refine .ofKind rfl ?_
      exact .inl rfl
    · refine .ofKind rfl (.ofKind ?_ ?_)
      · rw [encodeFrame, hiByte_half, loByte_half, if_neg (by decide)]
      iterate 4 refine .ofKind rfl ?_
      exact .inl rfl
    · refine .ofKind ?_ (.inl rfl)
      rw [encodeFrame, hiByte_half, loByte_half, hiByte_half, loByte_half, if_neg (by decide)]
    · refine .ofKind ?_ (.inl rfl)
      rw [encodeFrame, hiByte_half, loByte_half, if_neg (by decide)]
    · exact .inl rfl

end

/-- Settles O45: encode and decode by the row, decode and encode by the body's length and the KIND. -/
theorem hostFramesRoundTrip : Obligations.HostFramesRoundTrip :=
  ⟨fun _ _ => decodeFrame_of_encodeFrame, saysFrame_decodeFrame⟩

end Sys2Proof.Machine
end

section
/-! SUPPORT. The receiver byte by byte (R144, R145), and a whole frame taken so (R142, R143, R147). -/

namespace Sys2Proof.Machine

variable {s : State} {p : PortId} {b : Byte}

/-! ### The receiver's table (R144) -/

theorem Receiver.take_length (h : 2 ≤ b.toNat ∧ b.toNat ≤ 253) :
    Receiver.length.take b = .goOn (.body b.toNat [b]) := if_pos h

theorem Receiver.take_length_bad (h : b.toNat < 2 ∨ 253 < b.toNat) :
    Receiver.length.take b = .discard := if_neg (by omega)

theorem Receiver.take_body (n : Nat) (stored : List Byte) :
    (Receiver.body (n + 2) stored).take b = .goOn (.body (n + 1) (stored ++ [b])) := rfl

theorem Receiver.take_body_last (stored : List Byte) :
    (Receiver.body 1 stored).take b = .goOn (.check (stored ++ [b]) none) := rfl

theorem Receiver.take_check_first (stored : List Byte) :
    (Receiver.check stored none).take b = .goOn (.check stored (some b)) := rfl

theorem Receiver.take_check_bad {stored : List Byte} {hi : Byte} (h : crc stored ≠ half hi b) :
    (Receiver.check stored (some hi)).take b = .discard := if_neg h

theorem Receiver.take_check_good {len kind seq hi : Byte} {body : List Byte}
    (h : crc (len :: kind :: seq :: body) = half hi b) :
    (Receiver.check (len :: kind :: seq :: body) (some hi)).take b = .good kind seq body := if_pos h

/-! ### The port's receiver -/

@[simp] theorem State.setReceiver_setReceiver (s : State) (p : PortId) (r q : Receiver) :
    (s.setReceiver p r).setReceiver p q = s.setReceiver p q := s.updPort_updPort p _ _

theorem State.setReceiver_self {r : Receiver} (h : (s.port p).receiver = r) : s.setReceiver p r = s :=
  s.updPort_eq_self p _ (h ▸ rfl)

theorem State.setReceiver_receiver (s : State) (p : PortId) (r : Receiver) :
    ((s.setReceiver p r).port p).receiver = r := by
  rw [State.setReceiver, State.port_updPort_self]

theorem State.setReceiver_session (s : State) (p : PortId) (r : Receiver) :
    ((s.setReceiver p r).port p).session = (s.port p).session := by
  rw [State.setReceiver, State.port_updPort_self]

/-! ### One byte (R144, R145, R147) -/

/-- A DOWN port ignores every byte (R144). -/
theorem byteTaken_down (h : (s.port p).session = .down) : exec (.byteTaken p b) s = .next s :=
  if_pos (.inr h)

section
variable (hr : s.inReset = false) (hs : (s.port p).session ≠ .down)
include hr hs

/-- The port hears: out of reset and not DOWN, it ignores no byte. -/
theorem not_byteIgnored : ¬(s.inReset = true ∨ (s.port p).session = .down) := by
  simp [hr, hs]

theorem byteTaken_goOn {r q : Receiver} (hrec : (s.port p).receiver = r) (h : r.take b = .goOn q) :
    exec (.byteTaken p b) s = .next (s.setReceiver p q) := by
  rw [exec_byteTaken, execByteTaken, if_neg (not_byteIgnored hr hs), hrec, h]

theorem byteTaken_discard {r : Receiver} (hrec : (s.port p).receiver = r) (h : r.take b = .discard) :
    exec (.byteTaken p b) s = .next (s.updPort p fun x =>
      Port.raise { x with receiver := .hunt, badFrames := bump x.badFrames } .linkError) := by
  rw [exec_byteTaken, execByteTaken, if_neg (not_byteIgnored hr hs), hrec, h]
  exact congrArg _ (if_neg hs)

theorem byteTaken_good {r : Receiver} {kind seq : Byte} {body : List Byte}
    (hrec : (s.port p).receiver = r) (h : r.take b = .good kind seq body) :
    exec (.byteTaken p b) s = deliver (decodeFrame p kind seq body) (s.setReceiver p .hunt) := by
  rw [exec_byteTaken, execByteTaken, if_neg (not_byteIgnored hr hs), hrec, h]

end

/-- Settles O48: each clause is one row of the receiver's table. -/
theorem byteTakenFollowsTheReceiverTable : Obligations.ByteTakenFollowsTheReceiverTable := by
  intro s p b hr
  refine ⟨byteTaken_down, fun hs => ⟨fun h hb => ?_, fun h hb => byteTaken_goOn hr hs h ?_,
    fun h hlo hhi => byteTaken_goOn hr hs h (Receiver.take_length ⟨hlo, hhi⟩),
    fun h hb => byteTaken_discard hr hs h (Receiver.take_length_bad hb),
    fun n stored h => byteTaken_goOn hr hs h (Receiver.take_body n stored),
    fun stored h => byteTaken_goOn hr hs h (Receiver.take_body_last stored),
    fun stored h => byteTaken_goOn hr hs h (Receiver.take_check_first stored),
    fun stored high h hc => byteTaken_discard hr hs h (Receiver.take_check_bad hc)⟩⟩
  · have hstay : Receiver.hunt.take b = .goOn .hunt := congrArg Reception.goOn (if_neg hb)
    rw [byteTaken_goOn hr hs h hstay, State.setReceiver_self h]
  · exact congrArg Reception.goOn (if_pos hb)

/-! ### The bytes of a frame (R142, R143) -/

/-- The last byte's outcome is the outcome of all. -/
theorem takeBytes_singleton (p : PortId) (b : Byte) (s : State) :
    takeBytes p [b] s = exec (.byteTaken p b) s := by
  rw [takeBytes]
  cases exec (.byteTaken p b) s <;> rfl

section
variable (hr : s.inReset = false) (hs : (s.port p).session ≠ .down)
include hr hs

/-- A byte inside a frame moves the receiver alone. -/
theorem takeBytes_goOn {r q : Receiver} (h : r.take b = .goOn q) (rest : List Byte) :
    takeBytes p (b :: rest) (s.setReceiver p r) = takeBytes p rest (s.setReceiver p q) := by
  have hbyte : exec (.byteTaken p b) (s.setReceiver p r) = .next (s.setReceiver p q) := by
    rw [byteTaken_goOn (s := s.setReceiver p r) hr (by rwa [State.setReceiver_session])
      (s.setReceiver_receiver p r) h, State.setReceiver_setReceiver]
  rw [takeBytes, hbyte]

/-- The counted bytes are stored in their order, and the receiver comes to CHECK with the last of them. -/
theorem takeBytes_body (bytes stored rest : List Byte) (b : Byte) :
    takeBytes p (b :: bytes ++ rest) (s.setReceiver p (.body (bytes.length + 1) stored)) =
      takeBytes p rest (s.setReceiver p (.check (stored ++ b :: bytes) none)) := by
  induction bytes generalizing b stored with
  | nil => exact takeBytes_goOn hr hs (Receiver.take_body_last stored) rest
  | cons c bytes ih =>
    calc takeBytes p (b :: (c :: bytes ++ rest))
          (s.setReceiver p (.body (bytes.length + 2) stored))
      _ = takeBytes p (c :: bytes ++ rest)
          (s.setReceiver p (.body (bytes.length + 1) (stored ++ [b]))) :=
        takeBytes_goOn hr hs (Receiver.take_body _ stored) _
      _ = takeBytes p rest (s.setReceiver p (.check (stored ++ [b] ++ c :: bytes) none)) :=
        ih (stored ++ [b]) c
      _ = takeBytes p rest (s.setReceiver p (.check (stored ++ b :: c :: bytes) none)) := by
        rw [List.append_assoc, List.singleton_append]

/-- Both bytes of a CHECK that agrees: the frame is classified and taken as its row, and the port hunts. -/
theorem takeBytes_check (len kind seq : Byte) (body : List Byte) :
    takeBytes p (bytesOfHalf (crc (len :: kind :: seq :: body)))
        (s.setReceiver p (.check (len :: kind :: seq :: body) none)) =
      deliver (decodeFrame p kind seq body) (s.setReceiver p .hunt) := by
  rw [bytesOfHalf, takeBytes_goOn hr hs (Receiver.take_check_first _), takeBytes_singleton,
    byteTaken_good (s := s.setReceiver p _) hr (by rwa [State.setReceiver_session])
      (s.setReceiver_receiver p _) (Receiver.take_check_good (half_hiByte_loByte _).symm),
    State.setReceiver_setReceiver]

end

/-! ### What a good frame means (R147) -/

/-- Only the rows that are no frames of a host are left without their meaning. -/
theorem deliver_of_encodeFrame {i : Instr} {f : HostFrame} (h : encodeFrame i = some f) :
    deliver i = exec i := by
  cases i with
  | selection | ackDeadlineExpiry | lifetimeExpiry | dormancyExpiry | breakStart | breakEnd
  | frameDiscard | gapExpiry | malformed | arbiterBeginFrame | frameLastByteSent
  | stoppedFrameIdleEnd | powerOn | resetAsserted | testEnd | byteTaken => cases h
  | _ => rfl

/-- A good frame of any bytes means what its row means. -/
theorem deliver_decodeFrame (p : PortId) (kind seq : Byte) (body : List Byte) :
    deliver (decodeFrame p kind seq body) = exec (decodeFrame p kind seq body) := by
  rcases saysFrame_decodeFrame p kind seq body with h | h
  · rw [h]
    rfl
  · exact deliver_of_encodeFrame h

/-- Settles O47: SYNC, LEN, the counted bytes and the CHECK one after the other. -/
theorem frameBytesReachTheMeaning : Obligations.FrameBytesReachTheMeaning := by
  intro s p kind seq body hr hs hrec hlen
  have hcount : (byteOf (body.length + 2)).toNat = body.length + 2 := by
    rw [byteOf, BitVec.toNat_ofNat]
    omega
  have hsync : Receiver.hunt.take Config.sync = .goOn .length := rfl
  have hlength : Receiver.length.take (byteOf (body.length + 2)) =
      .goOn (.body ((seq :: body).length + 1) [byteOf (body.length + 2)]) := by
    rw [Receiver.take_length (by omega), hcount]
    rfl
  calc takeBytes p (wireFrame kind seq body) s
    _ = takeBytes p (wireFrame kind seq body) (s.setReceiver p .hunt) := by
      rw [State.setReceiver_self hrec]
    _ = takeBytes p (bytesOfHalf (crc (checkedBytes kind seq body)))
          (s.setReceiver p (.check (checkedBytes kind seq body) none)) := by
      rw [wireFrame, takeBytes_goOn hr hs hsync, checkedBytes, List.cons_append,
        takeBytes_goOn hr hs hlength, takeBytes_body hr hs, List.singleton_append]
    _ = deliver (decodeFrame p kind seq body) (s.setReceiver p .hunt) :=
      takeBytes_check hr hs _ kind seq body
    _ = exec (decodeFrame p kind seq body) s := by
      rw [deliver_decodeFrame, State.setReceiver_self hrec]

end Sys2Proof.Machine
end

section
/-! SUPPORT. The reply that a completion makes READY (R156, R158). -/

namespace Sys2Proof.Machine

/-- Replies that wait for something else keep their places. -/
theorem filter_awaits_eq_self {a : Awaited} {rs : List Reply} (h : ∀ y ∈ rs, y.state ≠ .deferred a) :
    rs.filter (fun y => !y.awaits a) = rs :=
  List.filter_eq_self.2 fun y hy => by simp [Reply.awaits, h y hy]

/-- The one reply that waits is found, whatever stands before it and behind it. -/
theorem find?_awaits {a : Awaited} {ahead : List Reply} {r : Reply} (hr : r.state = .deferred a)
    (h : ∀ y ∈ ahead, y.state ≠ .deferred a) (behind : List Reply) :
    (ahead ++ r :: behind).find? (·.awaits a) = some r :=
  List.find?_eq_some_iff_append.2
    ⟨decide_eq_true hr, ahead, behind, rfl, fun y hy => by simp [Reply.awaits, h y hy]⟩

/-- Settles O52: the one reply that waits is found, taken out of its place and put last. -/
theorem completedReplyStandsLast : Obligations.CompletedReplyStandsLast := by
  intro x a res ahead behind r hx hr hothers
  obtain ⟨hahead, hbehind⟩ := List.forall_mem_append.1 hothers
  have hrest : (ahead ++ r :: behind).filter (fun y => !y.awaits a) = ahead ++ behind := by
    rw [List.filter_append, filter_awaits_eq_self hahead,
      List.filter_cons_of_neg (by simp [Reply.awaits, hr]), filter_awaits_eq_self hbehind]
  simp only [Port.complete, hx, find?_awaits hr hahead, hrest]

end Sys2Proof.Machine
end

section
/-! SUPPORT. The event unit under a raise and under the two event commands (R163, R164, R166, R167). -/

namespace Sys2Proof.Machine

variable {s : State} {p : PortId}

/-! ### A raise at one port (R163) -/

/-- At a port that is not UP a raise leaves the whole state as it is. -/
theorem State.raise_quiet (e : Event) (h : (s.port p).session ≠ .up) : s.raise e p = s :=
  State.updPort_eq_self _ p _ (Port.raise_quiet e h)

/-- At an UP port a raise sets the flag, and the notice condition is evaluated over the flags as they then
stand. -/
theorem State.raise_up (e : Event) (h : (s.port p).session = .up) :
    s.raise e p = s.updPort p fun x => Port.evalNotice { x with flags := x.flags ||| e.bit } :=
  State.updPort_congr (Port.raise_up e h)

/-- Settles O42: whether the port is UP decides, and an UP port evaluates the notice condition of R164. -/
theorem raiseQueuesOneNotice : Obligations.RaiseQueuesOneNotice := by
  intro s p q e
  refine ⟨State.raise_quiet e, fun hup => ?_, State.port_raise_ne s e⟩
  rw [State.raise_up e hup]
  simp only [Port.evalNotice]

/-! ### SET_EVENTS and READ_EVENTS (R166, R167) -/

/-- SET_EVENTS with bit 7 at 0 evaluates the notice condition over the new enables (R166). -/
theorem setEventsOwn_done {enables : Byte} (h : enables.msb = false) :
    s.setEventsOwn p enables =
      answer (s.updPort p fun x => Port.evalNotice { x with enables := enables.setWidth 7 })
        (.events (enables.setWidth 7) (s.port p).flags) := by
  simp only [State.setEventsOwn, eventSet_eq h]

/-- Bit 7 names no event (R149, R166). -/
theorem setEventsOwn_range {enables : Byte} (h : enables.msb = true) :
    s.setEventsOwn p enables = refuse s .range := by
  simp only [State.setEventsOwn, eventSet_none h]

/-- Settles O43: bit 7 decides whether SET_EVENTS is done or refused, and READ_EVENTS has no check of its own. -/
theorem eventCommandsActOnTheUnit : Obligations.EventCommandsActOnTheUnit := by
  intro s p seq enables hs
  refine ⟨fun hlow => ?_, fun hhigh => ?_, ?_⟩
  · rw [exec_answered hs (exec_setEvents ..) (setEventsOwn_done hlow)]
    simp only [Port.evalNotice]
  · exact exec_refused hs (exec_setEvents ..) (setEventsOwn_range hhigh)
  · exact exec_answered hs (exec_readEvents ..) rfl

end Sys2Proof.Machine
end

section
/-! SUPPORT. The step without a command, the part held in reset, the state after reset and RETEST's own checks
(R73, R119, R174, R175, R178). -/

namespace Sys2Proof.Machine

variable {s : State} {p : PortId} {seq : Byte}

/-! ### A step with no command waiting (R73, log 3) -/

theorem step_idle (h : s.pending = []) : step s = .next s.tick := by
  simp only [step, h]

/-- Settles O2: the time base alone advances, and only while RESETn is high. -/
theorem idleStepAdvancesTheTimeBase : Obligations.IdleStepAdvancesTheTimeBase := by
  intro s hidle
  rw [step_idle hidle, State.tick]

/-! ### What the tables read at power-on and in reset (R119, R174, R175) -/

section
variable (psel : BitVec 3) (rate : BitVec 2)
@[simp] theorem State.desc_powerOnValues (d : DescId) :
    (State.powerOnValues psel rate).desc d = none := Table.get_replicate none d
@[simp] theorem State.buffers_powerOnValues (b : BufferId) :
    (State.powerOnValues psel rate).buffers.get b = .retired :=
  Table.get_replicate BufferSet.retired b
@[simp] theorem State.port_powerOnValues (p : PortId) :
    (State.powerOnValues psel rate).port p = Port.powerOn (decide (psel.toNat = p.val)) :=
  Table.get_ofFn _ p
end

section
variable (s : State)
@[simp] theorem State.desc_enterReset (d : DescId) : s.enterReset.desc d = none :=
  State.desc_powerOnValues 7#3 0#2 d
@[simp] theorem State.entry_enterReset (e : EntryId) : s.enterReset.entry e = none :=
  Table.get_replicate none e
@[simp] theorem State.buffers_enterReset (b : BufferId) : s.enterReset.buffers.get b = .retired :=
  State.buffers_powerOnValues 7#3 0#2 b
@[simp] theorem State.mbx_enterReset (m : MailboxId) : s.enterReset.mbx m = Mailbox.blank :=
  Table.get_replicate Mailbox.blank m
@[simp] theorem State.grp_enterReset (g : GroupId) : s.enterReset.grp g = Group.undefined :=
  Table.get_replicate Group.undefined g

/-- Strap value 7 names no port, so that no port of the part in reset is principal (log 13). -/
@[simp] theorem State.port_enterReset (p : PortId) : s.enterReset.port p = Port.powerOn false := by
  have hnone : decide ((7#3).toNat = p.val) = false := decide_eq_false fun h => by
    have h7 : 7 = p.val := h
    omega
  exact (State.port_powerOnValues 7#3 0#2 p).trans (congrArg Port.powerOn hnone)

/-- In reset no frame and no character is on a line, so TXD is at its idle level (R140, R175). -/
@[simp] theorem State.txLevel_enterReset (p : PortId) (k : Nat) : s.enterReset.txLevel p k = true := by
  have hquiet : ∀ f, (s.enterReset.port p).tx ≠ .sending f := fun f => by
    rw [State.port_enterReset]
    exact nofun
  rw [txLevel_quiet hquiet, State.port_enterReset]
  rfl
end

/-- Every row but POWER_ON and RESET_ASSERTED is an event of the part, and in reset it takes none (R175). -/
theorem exec_inReset (hr : s.inReset = true) {c : Instr} (hon : ∀ a b, c ≠ .powerOn a b)
    (hra : c ≠ .resetAsserted) : exec c s = .next s := by
  cases c
  case powerOn psel rate => exact absurd rfl (hon psel rate)
  case resetAsserted => exact absurd rfl hra
  case byteTaken => exact if_pos (.inl hr)
  all_goals exact congrArg Host.Outcome.next (if_pos hr)

/-- Settles O8: `State.enterReset` reads the queue of commands alone of what the part held. -/
theorem resetHoldsUntilPowerOn : Obligations.ResetHoldsUntilPowerOn := by
  refine ⟨⟨State.reset.enterReset, fun s => exec_resetAsserted s, rfl, rfl, rfl, rfl, rfl, rfl, rfl, rfl,
    State.port_enterReset _, State.txLevel_enterReset _, State.desc_enterReset _,
    State.entry_enterReset _, State.buffers_enterReset _, rfl, State.mbx_enterReset _,
    fun g => ?_⟩, fun s hr c hon hra => exec_inReset hr hon hra⟩
  rw [State.grp_enterReset]
  exact ⟨rfl, rfl⟩

/-! ### The laws after reset (R119, R174) -/

theorem tagsDistinct_of_empty (hd : ∀ d, s.desc d = none) : s.tagsDistinct := fun i _ x _ hx => by
  rw [hd i] at hx
  cases hx

/-- Settles O53: with no message LIVE, no buffer in use and no test ended, the laws of tags and buffers are
those of an empty store; the other laws hold whatever the straps. -/
theorem resetIsLawful : Obligations.ResetIsLawful := by
  have hdesc : ∀ d, State.reset.desc d = none := State.desc_powerOnValues _ _
  refine ⟨lawful_powerOnValues _ _, tagsDistinct_of_empty hdesc, .of_empty hdesc (fun b => ?_) nofun, rfl⟩
  rw [State.reset, State.buffers_powerOnValues]
  decide

/-! ### RETEST (R178) -/

/-- No descriptor is LIVE exactly when each is absent (R1, R178 check 3). -/
theorem anyLive_eq_false : s.anyLive = false ↔ ∀ d, s.desc d = none := by
  rw [State.anyLive, Bool.not_eq_false', List.isEmpty_iff, List.eq_nil_iff_forall_not_mem]
  refine forall_congr' fun d => ?_
  rw [Table.mem_indices, Option.not_isSome_iff_eq_none]
  rfl

theorem anyLive_eq_true : s.anyLive = true ↔ ∃ d, s.desc d ≠ none := by
  rw [← Bool.not_eq_false, anyLive_eq_false, not_forall]

theorem retestOwn_testing (hm : s.mode = .testing) : s.retestOwn = refuse s .testing := by
  rw [State.retestOwn, if_pos hm]

theorem retestOwn_live (hm : s.mode ≠ .testing) (hl : s.anyLive = true) :
    s.retestOwn = refuse s .wrongState := by
  rw [State.retestOwn, if_neg hm, if_pos hl]

theorem retestOwn_begins (hm : s.mode ≠ .testing) (hl : s.anyLive = false) :
    s.retestOwn = ({ s with mode := .testing }, .deferred .retest) := by
  rw [State.retestOwn, if_neg hm, if_neg (by rw [hl]; decide)]

/-- A RETEST that passes its checks owes its reply, deferred, in the slot it took (R158, R178). -/
theorem exec_retest_begins (hs : Serves s p) (hp : (s.port p).principal = true)
    (ho : s.retestOwn = ({ s with mode := .testing }, .deferred .retest)) :
    exec (.retest p seq) s = .next (({ s with mode := .testing } : State).updPort p
      (·.post ⟨Kind.retest, seq, .deferred .retest⟩)) := by
  rw [exec_retest, event_awake _ hs.awake, takeCommand_serves hs, ofPrincipal_yes hp, ho]

/-- Settles O12: the principal check is the first, and RETEST's own two follow. -/
theorem retestBeginsATest : Obligations.RetestBeginsATest := by
  intro s p seq hs
  have hne : s.mode = .running → s.mode ≠ .testing := fun hm => by rw [hm]; decide
  exact ⟨fun hp => exec_refused hs (exec_retest ..) (ofPrincipal_no hp),
    fun hp hm => exec_principal_refused hs hp (exec_retest ..) (retestOwn_testing hm),
    fun hp hm hl => exec_principal_refused hs hp (exec_retest ..)
      (retestOwn_live (hne hm) (anyLive_eq_true.2 hl)),
    fun hp hm hl => exec_retest_begins hs hp (retestOwn_begins (hne hm) (anyLive_eq_false.2 hl))⟩

end Sys2Proof.Machine
end

section
/-! SUPPORT. CONFIGURE (R184, R185): its range check, its two settings and the arming it evaluates. -/

namespace Sys2Proof.Machine

variable {s : State} {p : PortId} {seq : Byte} {low dormancy : Half}

/-- An evaluation arms by the free count alone, and raises POOL_LOW when it disarms (R19). -/
theorem State.evalPool_eq_armed (s : State) {u : State}
    (hu : u = { s with poolArmed := decide (s.lowMark ≤ s.freeBuffers) }) :
    s.evalPool = if s.poolArmed = true ∧ s.freeBuffers < s.lowMark then u.raiseAll .poolLow else u := by
  rw [State.evalPool_eq, hu]
  refine ite_congr rfl (fun hcross => ?_) fun _ => rfl
  rw [decide_eq_false (Nat.not_le.2 hcross.2)]

/-- Within both limits CONFIGURE applies both fields and evaluates the arming (R184). -/
theorem configureOwn_done (hl : low.toNat ≤ 384) (hd : dormancy.toNat ≤ 3600) :
    s.configureOwn low dormancy =
      answer ({ s with lowMark := low.toNat, dormancyLimit := dormancy.toNat } : State).evalPool
        (.configured low.toNat dormancy.toNat) :=
  if_pos ⟨hl, hd⟩

/-- A field above its limit is refused, whatever the other (R184). -/
theorem configureOwn_range (h : 384 < low.toNat ∨ 3600 < dormancy.toNat) :
    s.configureOwn low dormancy = refuse s .range :=
  if_neg fun hle => h.elim (Nat.not_lt.2 hle.1) (Nat.not_lt.2 hle.2)

/-- Settles O44: the principal check is the first and the range check the second; past both the evaluation of
the arming is `State.evalPool_eq_armed` with the new mark. -/
theorem configureSetsBothSettings : Obligations.ConfigureSetsBothSettings := by
  intro s p seq low dormancy hs
  refine ⟨fun hp => ?_, fun hp hlow hdorm u hu => ?_, fun hp hout => ?_⟩
  · exact exec_refused hs (exec_configure ..) (ofPrincipal_no hp)
  · rw [exec_principal_answered hs hp (exec_configure ..) (configureOwn_done hlow hdorm),
      State.evalPool_eq_armed _ hu]
    rfl
  · exact exec_principal_refused hs hp (exec_configure ..) (configureOwn_range hout)

end Sys2Proof.Machine
end

section
/-! SUPPORT. The queue of the commands that wait under every act of the part: only a step takes from it. First the
store's acts, then the effects of commands, then what one event can do, in the order of `Outcome`. -/

namespace Sys2Proof.Machine

variable {s t : State} {p : PortId}

theorem State.pending_of_registers (h : t.registers = s.registers) : t.pending = s.pending := by
  obtain ⟨-, -, -, -, -, -, -, -, -, hpending⟩ := State.registers_fields h
  exact hpending

theorem OnlyPortsBoxes.pending (h : OnlyPortsBoxes s t) : t.pending = s.pending := by
  obtain ⟨-, -, -, -, -, -, hr⟩ := h.tables
  exact State.pending_of_registers hr

/-- Acts taken one after the other leave the queue alone if each does. -/
theorem State.foldl_pending {α : Type} {f : State → α → State}
    (h : ∀ s a, (f s a).pending = s.pending) (as : List α) (s : State) :
    (as.foldl f s).pending = s.pending :=
  as.foldlRecOn f (motive := fun t => t.pending = s.pending) rfl fun t ht a _ => (h t a).trans ht

/-! ### Resolutions and requeues (R13, R16, R82, R83) -/

@[simp] theorem State.evalLevel_pending (s : State) (m : MailboxId) :
    (s.evalLevel m).pending = s.pending :=
  State.pending_of_registers (s.registers_evalLevel m)

@[simp] theorem State.evalPool_pending (s : State) : s.evalPool.pending = s.pending :=
  State.pending_of_registers s.registers_evalPool

@[simp] theorem State.completeIfDone_pending (s : State) (i : DescId) :
    (s.completeIfDone i).pending = s.pending := by
  unfold State.completeIfDone
  split
  · split
    · exact State.pending_of_registers (s.registers_completeMessage i _)
    · rfl
  · rfl

@[simp] theorem State.resolve_pending (s : State) (e : EntryId) (o : EntryOutcome) :
    (s.resolve e o).pending = s.pending := by
  cases he : s.entry e with
  | none => rw [State.resolve_none o he]
  | some en =>
    rw [State.resolve_some o he, State.completeIfDone_pending]
    exact State.pending_of_registers (s.registers_countOut e en o)

@[simp] theorem State.resolveAll_pending (s : State) (es : List EntryId) (o : EntryOutcome) :
    (s.resolveAll es o).pending = s.pending :=
  State.foldl_pending (fun s e => s.resolve_pending e o) es s

@[simp] theorem State.requeue_pending (s : State) (e : EntryId) :
    (s.requeue e).pending = s.pending := by
  unfold State.requeue
  split <;> rfl

@[simp] theorem State.nonAccepting_pending (s : State) (e : EntryId) (counted : Bool) :
    (s.nonAccepting e counted).pending = s.pending := by
  unfold State.nonAccepting
  split
  · rfl
  · split
    · rfl
    · split
      · exact s.resolve_pending e _
      · exact s.requeue_pending e

/-! ### Closes (R15, R30 to R36) -/

theorem State.closeIfEmpty_pending (s : State) (m : MailboxId) :
    (s.closeIfEmpty m).pending = s.pending := by
  unfold State.closeIfEmpty
  split
  · exact (s.finishClose_spec m).1.pending
  · rfl

theorem State.thenClose_pending (s : State) (e : EntryId) {act : State → State}
    (h : (act s).pending = s.pending) : (s.thenClose e act).pending = s.pending := by
  unfold State.thenClose
  split
  · rfl
  · exact (State.closeIfEmpty_pending _ _).trans h

@[simp] theorem State.freeDormant_pending (s : State) (m : MailboxId) :
    (s.freeDormant m).pending = s.pending :=
  s.resolveAll_pending (s.queuedIn m) .purged

@[simp] theorem State.tellOwner_pending (s : State) (p : PortId) (m : MailboxId) :
    (s.tellOwner p m).pending = s.pending := by
  unfold State.tellOwner
  split <;> rfl

@[simp] theorem State.closeOpen_pending (s : State) (p : PortId) (seq : Byte) (m : MailboxId) :
    (s.closeOpen p seq m).1.pending = s.pending := by
  have hpurged := (s.beginClose m).resolveAll_pending ((s.beginClose m).queuedIn m) .purged
  unfold State.closeOpen
  dsimp only
  split <;> exact hpurged

/-! ### Session ends (R85, R132) -/

theorem State.withdrawOffer_pending (s : State) (e : EntryId) :
    (s.withdrawOffer e).pending = s.pending :=
  State.nonAccepting_pending _ e false

theorem State.withdraw_pending (s : State) (p : PortId) : (s.withdraw p).pending = s.pending := by
  rw [State.withdraw_eq]
  exact State.foldl_pending State.withdrawOffer_pending _ s

@[simp] theorem State.endSession_pending (s : State) (p : PortId) (c : EndCause) :
    (s.endSession p c).pending = s.pending :=
  ((s.withdraw p).leaveUp_only p c).pending.trans (s.withdraw_pending p)

/-! ### SEND, CANCEL and CLEAR (R11, R59 to R61, R182) -/

theorem State.addEntry_pending (s : State) (i : DescId) (m : MailboxId) :
    (s.addEntry i m).pending = s.pending := by
  unfold State.addEntry
  split
  · rfl
  · exact State.evalLevel_pending _ m

@[simp] theorem State.allocate_pending (s : State) (p : PortId) (f : SendFields)
    (ts : List MailboxId) (k : Nat) : (s.allocate p f ts k).pending = s.pending := by
  unfold State.allocate
  split
  · rfl
  · next i _ =>
    exact (State.evalPool_pending _).trans (State.foldl_pending (·.addEntry_pending i) ts _)

@[simp] theorem State.cancelAt_pending (s : State) (i : DescId) (n : BitVec 32) :
    (s.cancelAt i n).1.pending = s.pending := by
  have hcancelled := s.resolveAll_pending (s.queuedOf i) .cancelled
  unfold State.cancelAt
  dsimp only
  split <;> exact hcancelled

@[simp] theorem State.clearAll_pending (s : State) : s.clearAll.pending = s.pending := by
  obtain ⟨⟨ports, h⟩, -⟩ := s.clearAll_spec
  rw [h]
  exact s.emptied.evalPool_pending

/-! ### Commands -/

theorem Effect.pending (h : Effect p s t) : t.pending = s.pending := by
  cases h with
  | detach => exact s.endSession_pending p .detach
  | close => rw [State.closeOpen_pending, State.tellOwner_pending]
  | freed => rw [State.freeDormant_pending, State.tellOwner_pending]
  | send => exact s.allocate_pending p _ _ _
  | cancel => exact s.cancelAt_pending _ _
  | configure => exact State.evalPool_pending _
  | clear => exact s.clearAll_pending
  | opened | held | reclaim | setEvents | readEvents | group | retest => rfl

theorem Comes.pending {kind seq : Byte} (h : Comes p kind seq s t) : t.pending = s.pending := by
  obtain ⟨r, hr, rfl⟩ := h
  show r.1.pending = s.pending
  cases hr with
  | effect _ _ he => exact he.pending
  | refused | read | attached => rfl

/-! ### Offers and the link -/

theorem State.select_pending (s : State) (p : PortId) : (s.select p).pending = s.pending := by
  unfold State.select State.offerEntry
  split
  · split
    · split
      · rfl
      · split <;> rfl
    · rfl
  · rfl

theorem State.arbitrate_pending (s : State) (p : PortId) :
    (s.arbitrate p).pending = s.pending := by
  unfold State.arbitrate
  split <;> rfl

theorem State.endFrame_pending (s : State) (p : PortId) (f : Frame) :
    (s.endFrame p f).pending = s.pending := by
  cases f with
  | offer =>
    unfold State.endFrame
    dsimp only
    split <;> rfl
  | hello | reply | report | event => rfl

theorem State.lastByteSent_pending (s : State) (p : PortId) :
    (s.lastByteSent p).pending = s.pending := by
  unfold State.lastByteSent
  split
  · exact (State.arbitrate_pending _ p).trans (s.endFrame_pending p _)
  · rfl
  · rfl

theorem State.stoppedIdleEnded_pending (s : State) (p : PortId) :
    (s.stoppedIdleEnded p).pending = s.pending := by
  unfold State.stoppedIdleEnded
  split
  · exact State.arbitrate_pending _ p
  · rfl

theorem State.discardFrame_pending (s : State) (p : PortId) :
    (s.discardFrame p).pending = s.pending := by
  unfold State.discardFrame
  split <;> rfl

theorem State.breakStarts_pending (s : State) (p : PortId) :
    (s.breakStarts p).pending = s.pending := by
  unfold State.breakStarts
  dsimp only
  split
  · rfl
  · split
    · rfl
    · rfl
    · rw [State.updPort_pending, State.endSession_pending, State.updPort_pending]

theorem State.breakEnds_pending (s : State) (p : PortId) : (s.breakEnds p).pending = s.pending := by
  unfold State.breakEnds
  split <;> rfl

/-! ### Test ends (R177) -/

theorem State.endTest_pending (s : State) (failed : List BufferId) :
    (s.endTest failed).pending = s.pending := by
  show (s.applyTest failed).pending = s.pending
  rw [State.applyTest_eq, State.evalPool_pending]
  rfl

theorem State.endSessionAtFault_pending (s : State) (p : PortId) :
    (s.endSessionAtFault p).pending = s.pending := by
  unfold State.endSessionAtFault
  split
  · exact s.endSession_pending p .testFault
  · rfl

theorem State.freed_pending (s : State) : s.freed.pending = s.pending := rfl

theorem State.faultTeardown_pending (s : State) : s.faultTeardown.pending = s.pending := by
  rw [State.faultTeardown_eq, State.freed_pending]
  exact State.foldl_pending State.endSessionAtFault_pending (List.finRange 6) s

theorem State.afterTest_pending (s : State) (wasStartUp : Bool) :
    (s.afterTest wasStartUp).pending = s.pending := by
  unfold State.afterTest
  split
  · rfl
  · split
    · exact s.faultTeardown_pending
    · rfl

/-! ### Every row -/

/-- No event takes from the queue of the commands that wait, or adds to it. -/
theorem Outcome.pending (h : Outcome s t) : t.pending = s.pending := by
  induction h with
  | reach _ _ _ _ ih => exact ih
  | receive _ _ _ _ _ _ ih => exact ih
  | answer _ _ _ _ _ _ h => exact h.pending
  | resolve s _ e o => exact s.thenClose_pending e (s.resolve_pending e o)
  | unaccepted s _ e => exact s.thenClose_pending e (s.nonAccepting_pending e true)
  | select s p => exact s.select_pending p
  | expire s i => exact s.resolveAll_pending (s.queuedOf i) .expired
  | dormancy s m => exact s.freeDormant_pending m
  | breakStart s p => exact s.breakStarts_pending p
  | breakEnd s p => exact s.breakEnds_pending p
  | discard s p => exact s.discardFrame_pending p
  | arbitrate s p => exact s.arbitrate_pending p
  | lastByte s p => exact s.lastByteSent_pending p
  | idleEnd s p => exact s.stoppedIdleEnded_pending p
  | testEnd s failed =>
    exact (State.afterTest_pending _ _).trans (s.endTest_pending failed)
  | same | powerOn | enterReset | drop | stray => rfl

/-- Every row but BYTE_TAKEN answers a next state: POWER_ON and RESET_ASSERTED outright, each other row as an
event (R175). -/
theorem exec_next {c : Instr} (hc : ∀ p b, c ≠ .byteTaken p b) (s : State) :
    ∃ t, exec c s = .next t := by
  cases c with
  | byteTaken p b => exact absurd rfl (hc p b)
  | _ => exact ⟨_, rfl⟩

/-- BYTE_TAKEN answers a next state: the byte's place in the receiver, a discard, or what the good frame's row
answers (R144, R145, R147). -/
theorem execByteTaken_next (p : PortId) (b : Byte) (s : State) :
    ∃ t, execByteTaken p b s = .next t := by
  unfold execByteTaken
  split
  · exact ⟨_, rfl⟩
  · split
    · exact ⟨_, rfl⟩
    · exact ⟨_, rfl⟩
    · next kind seq body _ =>
      rcases deliver_cases (decodeFrame p kind seq body) (s.setReceiver p .hunt) with h | ⟨hc, h⟩
      · exact ⟨_, h⟩
      · rw [h]
        exact exec_next hc _

/-- Settles O3: every row answers a next state, and what one event can do leaves the queue alone. -/
theorem everyCommandCompletes : Obligations.EveryCommandCompletes := by
  intro c s
  have hnext : ∃ t, exec c s = .next t := by
    by_cases hc : ∀ p b, c ≠ .byteTaken p b
    · exact exec_next hc s
    · simp only [not_forall, not_not] at hc
      obtain ⟨p, b, rfl⟩ := hc
      exact execByteTaken_next p b s
  obtain ⟨t, ht⟩ := hnext
  exact ⟨t, ht, (outcome_of_exec ht).pending⟩

/-- Settles O1: a command at the front selects the second case of `step`. -/
theorem stepRunsTheFrontCommand : Obligations.StepRunsTheFrontCommand := by
  intro c rest s hfront
  simp only [step, hfront]

end Sys2Proof.Machine
end
